-- ==== Sys2Proof/Word.lean ====
section
/-! DEFINITION. The word types of the WS-416: a byte of a frame, a frame, and the station address. Angles, speeds,
indices and counts are integers of the manual and stay `Nat` or `Int`. -/

namespace Sys2Proof

/-- One byte of an Ethernet frame or of a telegram. -/
abbrev Byte := BitVec 8

/-- A frame as it crosses a port: every byte from the destination station address to the FCS, both included. -/
abbrev Frame := List Byte

/-- An Ethernet station address (bytes 0-5 or 6-11 of a frame, Table 3-1). -/
abbrev Station := BitVec 48

end Sys2Proof
end

