-- ==== Sys2Proof/Config.lean ====
section
/-! DEFINITION. What is fixed in one part and what the manual leaves open: the fixed capacities, the station address
(set at manufacture) and the free values. The opaque constants have no body: nothing can be proved about their values. -/

namespace Sys2Proof.Config

/-- Capacity of each forward queue (section 1.3, R27). -/
def forwardCapacity : Nat := 48
/-- Capacity of the injection queue (section 1.3, R30). -/
def injectionCapacity : Nat := 32
/-- Capacity of the request inbox (section 1.3, R28). -/
def inboxCapacity : Nat := 8
/-- Capacity of the reply queue (section 1.3, R29). -/
def replyCapacity : Nat := 8
/-- The depth at which a forward queue asserts a pause (R33). -/
def pauseHigh : Nat := 40
/-- The depth at which a forward queue releases its pause (R33). -/
def pauseLow : Nat := 16
/-- The pause time of an asserted PAUSE, in quanta (R33). -/
def pauseMax : Nat := 65535
/-- Move records the Move Ring retains (R114). -/
def ringCapacity : Nat := 1024
/-- Turbine indices (section 2). -/
def turbines : Nat := 256
/-- Row records (section 2). -/
def rows : Nat := 16
/-- Members of one row (R6). -/
def rowMembers : Nat := 32
/-- Sector indices of a bank and of the trims (R66, R146). -/
def sectorSlots : Nat := 36
/-- The part timebase wraps after this many seconds (R4). -/
def timebaseSpan : Nat := 4294967296
/-- Whole quanta of 512 bit times in one second at 100 Mb/s (section 3.5), rounded down. -/
def quantaPerSecond : Nat := 195312

/-- The part's station address: a fixed value set in the part at manufacture (R38). The manual gives no value. FREE (log
entry 3). -/
opaque stationAddress : Station

/-- What stands for byte `i` of an MREQ body that is too short to hold it (R22 accepts such a telegram; R175 and R178 read
its unit, transaction, request code and argument length). The manual gives no value. FREE (log entry 4). -/
opaque missingEnvelopeByte : Nat → Byte

/-- The two bytes sent for a quantity of a result or notice that does not fit the two bytes of Table 3-7. FREE (log entry
5). -/
opaque wideField : Int → BitVec 16

/-- The image mark at the start of the configuration memory (R185). The manual gives no value. FREE (log entry 8). -/
opaque imageMark : List Byte

/-- The WS-416's format number, as it stands behind the mark (R185). The manual gives no value. FREE (log entry 8). -/
opaque imageFormat : List Byte

end Sys2Proof.Config
end

