-- ==== Sys2Proof/Syntax.lean ====
section
/-! DEFINITION. The commands of the part: one constructor of `Instr` per row of spec/opcode_table.json, and the operand
types they carry. An event row carries what its report or event carries; a request row carries the request's head
(`ReqHead`) and its decoded arguments, `none` standing for arguments that cannot be decoded (R175). -/

namespace Sys2Proof

/-- The two Ethernet ports (section 1.2). -/
inductive Port where
  | sPort | fPort
deriving DecidableEq, Repr

/-- The operating mode (R159). -/
inductive Mode where
  | off | live | dry | unwind
deriving DecidableEq, Repr

/-- The two modes a report of entry to LIVE or DRY can name (GATE_MODE_CHANGE). -/
inductive SteeringMode where
  | live | dry
deriving DecidableEq, Repr

/-- The mode a `SteeringMode` names. -/
def SteeringMode.mode : SteeringMode → Mode
  | .live => .live
  | .dry => .dry

/-- The discrete input lines (section 10.4). -/
inductive Line where
  | storm | gridhold
deriving DecidableEq, Repr

/-- The level at a discrete input (Table 10-1). -/
inductive Level where
  | high | low
deriving DecidableEq, Repr

/-- The active edge of a line (Table 10-1). -/
inductive Edge where
  | rising | falling
deriving DecidableEq, Repr, Inhabited

/-- The yaw state a sample reports (Table 3-4). -/
inductive YawState where
  | idle | running | fault | locked
deriving DecidableEq, Repr

/-- A turbine's availability (section 2.5, codes of Table 3-3). -/
inductive Availability where
  | unseen | online | stale | fault
deriving DecidableEq, Repr

/-- The role of a bank (R66). -/
inductive Role where
  | active | shadow
deriving DecidableEq, Repr

/-- The letter of a bank (R66). -/
inductive Letter where
  | a | b
deriving DecidableEq, Repr

/-- The selector of READ_ARRIVALS (R157). -/
inductive Selector where
  | current | last
deriving DecidableEq, Repr

/-- A sector and a band taken together. -/
structure Pair where
  sector : Nat
  band : Nat
deriving DecidableEq, Repr

/-- The cause of a change of mode (R159, Table 10-3). -/
inductive ModeCause where
  | enable | dry | disable | unwindRequest | storm | unwindEnd | powerOn | restart
deriving DecidableEq, Repr

/-- The cause carried by a PLAN notice ABORTED (Table 11-2). -/
inductive AbortCause where
  | failureLimit | unwind | disable
deriving DecidableEq, Repr

/-- The finish cause of a move record (Table 7-2), each named once. -/
inductive FinishCause where
  | timeout | yawFault | locked | stale | unavailable | abort | disable | restart
deriving DecidableEq, Repr

/-- How an URGENT record finished, as reported to the Mode Controller (R166, R129). -/
inductive UrgentOutcome where
  | settled | failed | skipped | cancelled
deriving DecidableEq, Repr

/-- The state of a plan (Table 6-3). -/
inductive PlanState where
  | running | held | draining | complete | aborted | superseded
deriving DecidableEq, Repr

/-- The outcome of an unwind (Table 10-1). -/
inductive UnwindOutcome where
  | inProgress | complete | incomplete
deriving DecidableEq, Repr

/-- The unwind record (Table 10-1, R165). -/
structure UnwindRecord where
  outcome : UnwindOutcome
  startSecond : Nat
  endSecond : Option Nat
  planAborted : Nat
  created : Nat
  settled : Nat
  failed : Nat
  skipped : Nat
  cancelled : Nat
deriving DecidableEq, Repr

/-- A report on one of the Table Store's three swap-condition inputs (R77). -/
inductive SwapInput where
  | planInstalled (yes : Bool)
  | plannerBuilding (yes : Bool)
  | saveInProgress (yes : Bool)
deriving DecidableEq, Repr

/-- What happened to a save (R188). -/
inductive SaveOutcome where
  | writtenAndReadBack | noAnswer | writeFailed
deriving DecidableEq, Repr

/-- Who asked: the transaction, and the source node and source station address the reply goes back to (R38, R177). -/
structure ReqHead where
  transaction : Byte
  sourceNode : BitVec 16
  sourceStation : Station
deriving DecidableEq, Repr

/-- An MREQ as it stands in the request inbox (R28): the argument length and the arguments as received. -/
structure Request where
  head : ReqHead
  unitCode : Byte
  code : Byte
  argLength : Nat
  bodyLength : Nat
  args : List Byte
deriving DecidableEq, Repr

/-- A used sample of a reference turbine as it arrives at the Wind Estimator (R41); `none` is the mark that a field was
out of range. -/
structure ReferenceArrival where
  turbine : Nat
  time : Nat
  direction : Option Nat
  speed : Option Nat
  offset : Int
  gain : Nat
deriving DecidableEq, Repr

/-- One wave as the install report names it: its row and its predicted delay, absent for wave 0 (R97). -/
structure WaveInfo where
  row : Nat
  delay : Option Nat
deriving DecidableEq, Repr

/-- The Gate's report of an install to the Arrival Monitor (R97, R147). -/
structure InstallInfo where
  plan : Nat
  pair : Pair
  trim : Nat
  waves : List WaveInfo
  superseded : Option Nat
deriving DecidableEq, Repr

/-- The arguments of SET_ROW (R17). -/
structure SetRowArgs where
  row : Nat
  members : List Nat
  arrivalRef : Option Nat
deriving DecidableEq, Repr

/-- The arguments of SET_CORRECTION (R18). -/
structure SetCorrectionArgs where
  turbine : Nat
  offset : Int
  gain : Nat
deriving DecidableEq, Repr

/-- The arguments of SET_WIND_PARAMS (R61). -/
structure SetWindParamsArgs where
  alpha : Nat
  beta : Nat
  outlierLimit : Nat
  wRef : Nat
  wStale : Nat
  dwell : Nat
  hysteresis : Nat
deriving DecidableEq, Repr

/-- The arguments of SET_BANDS (R62): T1..T7 and hs. -/
structure SetBandsArgs where
  thresholds : List Nat
  hs : Nat
deriving DecidableEq, Repr

/-- The arguments of WRITE_OFFSETS (R71). -/
structure WriteOffsetsArgs where
  sector : Nat
  band : Nat
  page : Nat
  start : Nat
  count : Nat
  values : List Int
deriving DecidableEq, Repr

/-- The arguments of WRITE_SECTOR (R72). -/
structure WriteSectorArgs where
  sector : Nat
  order : List Nat
  spacings : List Nat
deriving DecidableEq, Repr

/-- The arguments of READ_OFFSETS (R73). -/
structure ReadOffsetsArgs where
  role : Role
  sector : Nat
  band : Nat
  page : Nat
  start : Nat
  count : Nat
deriving DecidableEq, Repr

/-- The plan and motion parameters of Table 6-2, in the order of SET_PLAN_PARAMS (Table 11-3). -/
structure PlanParams where
  biasLimit : Nat
  maxStep : Nat
  deadband : Nat
  gapMin : Nat
  gapMax : Nat
  floor : Nat
  yawRate : Nat
  settleTol : Nat
  settleMargin : Nat
  failureLimit : Nat
  refresh : Nat
deriving DecidableEq, Repr, Inhabited

/-- The arguments of SET_BUDGETS (R121): B[0..7] and U. -/
structure SetBudgetsArgs where
  bands : List Nat
  urgent : Nat
deriving DecidableEq, Repr

/-- The enabled flag and active edge of one line (R172). -/
structure LineConfig where
  enabled : Bool
  edge : Edge
deriving DecidableEq, Repr, Inhabited

/-- The arguments of SET_ARRIVAL (R155). -/
structure SetArrivalArgs where
  theta : Nat
  tau : Nat
  learning : Bool
deriving DecidableEq, Repr

/-- The arguments of SET_LINK (R182). -/
structure SetLinkArgs where
  node : Nat
  typeValue : Nat
  tagging : Bool
deriving DecidableEq, Repr

/-- The arguments of SET_NOTICES (R181): the four destinations and the fold count E. -/
structure SetNoticesArgs where
  destinations : List Nat
  fold : Nat
deriving DecidableEq, Repr

/-- A notice as the block that owns the event hands it to the Dispatcher (Table 11-2). The figures of an entry to UNWIND
are not part of `modeChanged`: they are read when the notice is composed (R165). -/
inductive Notice where
  | installed (plan : Nat) (pair : Pair) (waves pendingRecords skippedRecords superseded : Nat)
  | held (plan planTime : Nat) (requestHold lineHold : Bool)
  | resumed (plan planTime : Nat) (state : PlanState)
  | failure (plan failures : Nat)
  | aborted (plan : Nat) (cause : AbortCause) (failures : Nat)
  | complete (plan : Nat) (pair : Pair) (planTime failures settled failed skipped : Nat)
  | moveSkipped (sequence turbine : Nat) (cause : FinishCause)
  | moveFailed (sequence turbine : Nat) (cause : FinishCause) (target : Int)
  | modeChanged (before after : Mode) (cause : ModeCause) (second : Nat) (unwound : Option UnwindRecord)
  | bankSwapped (letter : Letter) (deferred : Bool) (second : Nat)
  | trimStepped (sector before after : Nat) (net : Int) (plan : Nat)
deriving DecidableEq, Repr

/-- The commands: one constructor per row of the opcode table. -/
inductive Instr where
  -- events of the Line Path
  | frameReception (p : Port) (frame : Frame)
  | pauseExpiry (p : Port)
  | transmissionEnd (p : Port)
  -- events of the blocks
  | roomEvent
  | staleExpiry (turbine : Nat)
  | referenceSample (r : ReferenceArrival)
  | freshnessExpiry
  | dwellExpiry
  | retargetTrigger (pair : Pair)
  | install
  | previewCompletion
  | waveRelease
  | arbiterScan
  | segmentSample (turbine : Nat) (yaw : YawState) (achieved : Int)
  | timeoutExpiry (turbine : Nat)
  | simulatedSettleExpiry (turbine : Nat)
  | refreshExpiry (turbine : Nat)
  | swapConditionReport (r : SwapInput)
  | refillCompletion
  | holdReport (inEffect : Bool)
  | commitStateReport (isPending : Bool)
  | installReport (i : InstallInfo)
  | releaseReport (plan wave : Nat)
  | watchArming (plan wave : Nat)
  | arrivalSample (row power time : Nat)
  | windowExpiry (pairIndex : Nat)
  | abortReport (plan : Nat)
  | completionReport (plan : Nat)
  | linePathModeChange (m : Mode)
  | estimatorModeChange (m : Mode)
  | plannerModeChange (m : Mode)
  | unwindEntry
  | offEntry
  | upkeepModeChange (m : Mode)
  | unwindFigures (plan created : Nat)
  | urgentFinishReport (o : UrgentOutcome)
  | unwindEnd
  | lineLevelChange (l : Line) (v : Level)
  | gridholdReport (isActive : Bool)
  | noticeEntry (n : Notice)
  | saveEnd (o : SaveOutcome)
  | resetAssertion
  | startUp (memoryAnswers : Bool) (storm gridhold : Level)
  -- management requests
  | unknownRequest (r : Request)
  | setTurbine (h : ReqHead) (a : Option (Nat × Nat))
  | clearTurbine (h : ReqHead) (a : Option Nat)
  | setRow (h : ReqHead) (a : Option SetRowArgs)
  | setReference (h : ReqHead) (a : Option (Nat × Bool))
  | setCorrection (h : ReqHead) (a : Option SetCorrectionArgs)
  | clearFault (h : ReqHead) (a : Option Nat)
  | readTurbine (h : ReqHead) (a : Option Nat)
  | readRow (h : ReqHead) (a : Option Nat)
  | setWindParams (h : ReqHead) (a : Option SetWindParamsArgs)
  | setBands (h : ReqHead) (a : Option SetBandsArgs)
  | setSectors (h : ReqHead) (a : Option Nat)
  | readEstimate (h : ReqHead) (a : Option Unit)
  | writeOffsets (h : ReqHead) (a : Option WriteOffsetsArgs)
  | writeSector (h : ReqHead) (a : Option WriteSectorArgs)
  | readOffsets (h : ReqHead) (a : Option ReadOffsetsArgs)
  | readSector (h : ReqHead) (a : Option (Role × Nat))
  | commit (h : ReqHead) (a : Option Unit)
  | cancelCommit (h : ReqHead) (a : Option Unit)
  | readTableState (h : ReqHead) (a : Option Unit)
  | setPlanParams (h : ReqHead) (a : Option PlanParams)
  | retarget (h : ReqHead) (a : Option Unit)
  | preview (h : ReqHead) (a : Option Pair)
  | readPreview (h : ReqHead) (a : Option Nat)
  | hold (h : ReqHead) (a : Option Unit)
  | resume (h : ReqHead) (a : Option Unit)
  | setBudgets (h : ReqHead) (a : Option SetBudgetsArgs)
  | readPlan (h : ReqHead) (a : Option Unit)
  | readMoves (h : ReqHead) (a : Option (Nat × Nat))
  | enable (h : ReqHead) (a : Option Unit)
  | dry (h : ReqHead) (a : Option Unit)
  | disable (h : ReqHead) (a : Option Unit)
  | unwind (h : ReqHead) (a : Option Unit)
  | setLines (h : ReqHead) (a : Option (LineConfig × LineConfig))
  | readMode (h : ReqHead) (a : Option Unit)
  | setArrival (h : ReqHead) (a : Option SetArrivalArgs)
  | readTrims (h : ReqHead) (a : Option Unit)
  | writeTrim (h : ReqHead) (a : Option (Nat × Nat))
  | readArrivals (h : ReqHead) (a : Option Selector)
  | setLink (h : ReqHead) (a : Option SetLinkArgs)
  | setNotices (h : ReqHead) (a : Option SetNoticesArgs)
  | readLink (h : ReqHead) (a : Option Unit)
  | saveImage (h : ReqHead) (a : Option Unit)
  | readImageState (h : ReqHead) (a : Option Unit)
  | identify (h : ReqHead) (a : Option Unit)
  | restart (h : ReqHead) (a : Option Unit)
  -- the two mode reports added at the end of the table
  | gateModeChange (m : SteeringMode)
  | arrivalMonitorModeChange (m : Mode)
deriving DecidableEq, Repr

end Sys2Proof
end

