-- ==== Sys2Proof/Machine/State.lean ====
section
/-! DEFINITION. The state of the WS-416 as plain data: one structure per block of section 1.3, the reports and notices
that are made but not yet taken, and the queue of waiting commands. A timer is `Option Nat`: `none` while stopped, and
while running the second of `State.clock` at which it expires (R1). -/

namespace Sys2Proof.Machine

/-- A sparse table from an index to a value, in one canonical form: indices strictly rising and no entry equal to the
value an unlisted index has (`Table.wf`). -/
structure Table (α : Type) where
  cells : List (Nat × α)
deriving DecidableEq, Repr, Inhabited

/-- A timer: the second at which it expires, or stopped (R1). -/
abbrev Timer := Option Nat

/-! ### Line Path (section 3) -/

/-- A frame in transmission; `restartReply` marks the reply to RESTART (R32). -/
structure Transmission where
  frame : Frame
  restartReply : Bool
deriving DecidableEq, Repr

/-- One port: its transmission in progress, the pause it has received (remaining quanta), the PAUSE waiting to be sent out
of it, and the turn of its egress arbiter (`ownLast`: its own queue, injection or reply, sent last). -/
structure PortState where
  transmission : Option Transmission
  paused : Option Nat
  waitingPause : Option Nat
  ownLast : Bool
deriving DecidableEq, Repr

/-- The class of a move record and of an injection (Table 7-2, R30). -/
inductive MoveClass where
  | normal | urgent
deriving DecidableEq, Repr

/-- One entry of the injection queue (R30). -/
structure Injection where
  cls : MoveClass
  frame : Frame
deriving DecidableEq, Repr

/-- One telegram of the reply queue (R29). -/
structure QueuedReply where
  frame : Frame
  restartReply : Bool
deriving DecidableEq, Repr

/-- The Line Path (section 3). -/
structure LinePath where
  sPort : PortState
  fPort : PortState
  s2f : List Frame
  f2s : List Frame
  injections : List Injection
  inbox : List Request
  replies : List QueuedReply
  s2fAsserted : Bool
  f2sAsserted : Bool
  sequence : Byte
  modeIn : Mode
  node : Nat
  typeValue : Nat
  tagging : Bool
deriving DecidableEq, Repr

/-! ### Fleet Table (section 2) -/

/-- The static fields of a turbine record (Table 2-1). Populated is `address.isSome`; Row and Position are the place of
the index in the row records, where they are stored (R3, R20). -/
structure TurbineStatic where
  address : Option Nat
  reference : Bool
  offset : Int
  gain : Nat
deriving DecidableEq, Repr

/-- The dynamic fields of a turbine record and its stale timer (Table 2-1, R4, R11). -/
structure TurbineDynamic where
  availability : Availability
  yaw : Option YawState
  direction : Option Nat
  speed : Option Nat
  power : Option Nat
  achieved : Option Int
  time : Option Nat
  sequence : Option Nat
  stale : Timer
deriving DecidableEq, Repr

/-- A row record (Table 2-2); it is populated exactly when the member list is not empty (R6). -/
structure Row where
  members : List Nat
  arrivalRef : Option Nat
deriving DecidableEq, Repr

/-- The unpopulated static values (R3). -/
def TurbineStatic.unpopulated : TurbineStatic := ⟨none, false, 0, 4096⟩

/-- A record in UNSEEN: every dynamic field absent, the stale timer stopped (R4, R11). -/
def TurbineDynamic.unseen : TurbineDynamic := ⟨.unseen, none, none, none, none, none, none, none, none⟩

/-- An unpopulated row (R6). -/
def Row.empty : Row := ⟨[], none⟩

/-- The Fleet Table. The node address map is the `address` column of `statics` (R5). -/
structure Fleet where
  statics : Table TurbineStatic
  dynamics : Table TurbineDynamic
  rows : Table Row
deriving DecidableEq, Repr

/-! ### Wind Estimator (section 4) -/

/-- The Wind Estimator parameters (Table 4-2). -/
structure WindParams where
  alpha : Nat
  beta : Nat
  outlierLimit : Nat
  wRef : Nat
  wStale : Nat
  dwell : Nat
  hysteresis : Nat
  thresholds : List Nat
  hs : Nat
  sectors : Nat
deriving DecidableEq, Repr, Inhabited

/-- The factory values of Table 4-2. -/
def WindParams.factory : WindParams := ⟨32, 32, 450, 20, 30, 120, 20, [40, 55, 70, 85, 100, 115, 130], 5, 24⟩

/-- The dwell pair: the pair being timed, or the pair most recently triggered (SPENT) (Table 4-1). -/
structure DwellPair where
  pair : Pair
  spent : Bool
deriving DecidableEq, Repr

/-- The Wind Estimator (Table 4-1). -/
structure Wind where
  direction : Nat
  speed : Nat
  valid : Bool
  outlierRun : Nat
  freshness : Timer
  candidateSector : Option Nat
  candidateBand : Option Nat
  dwellTimer : Timer
  dwellPair : Option DwellPair
  lastReference : Option (Nat × Nat)
  modeIn : Mode
  params : WindParams
deriving DecidableEq, Repr

/-! ### Table Store (section 5) -/

/-- A sector record: row order and spacing list (R68). -/
structure SectorRecord where
  order : List Nat
  spacings : List Nat
deriving DecidableEq, Repr

/-- A zeroed sector record (R68, R85). -/
def SectorRecord.zeroed : SectorRecord := ⟨[], []⟩

/-- A bank: the Offset Table, indexed by `(sector * 8 + band) * 256 + turbine` and 0 where unlisted, and the Sector Table,
zeroed where unlisted (R66-R68). -/
structure Bank where
  offsets : Table Int
  sectors : Table SectorRecord
deriving DecidableEq, Repr, Inhabited

/-- A zeroed bank (R85). -/
def Bank.zeroed : Bank := ⟨⟨[]⟩, ⟨[]⟩⟩

/-- A running refill: the swap it follows (whether deferred, and its second), or the start-up (R82). -/
structure Refill where
  afterSwap : Option (Bool × Nat)
deriving DecidableEq, Repr

/-- The Table Store (Table 5-1). -/
structure TableStore where
  bankA : Bank
  bankB : Bank
  active : Letter
  valid : Bool
  commitPending : Bool
  refill : Option Refill
  planInstalled : Bool
  plannerBuilding : Bool
  saveInProgress : Bool
deriving DecidableEq, Repr

/-! ### Planner (section 6) -/

/-- The factory values of Table 6-2. -/
def factoryPlanParams : PlanParams := ⟨250, 60, 5, 30, 600, 40, 3, 5, 60, 4, 20⟩

/-- The values read when a build begins (Table 6-1, R88). -/
structure BuildInputs where
  speed : Nat
  trim : Nat
  gapMin : Nat
  gapMax : Nat
  floor : Nat
  biasLimit : Nat
deriving DecidableEq, Repr

/-- The kind of a build (Table 6-1). -/
inductive BuildKind where
  | retarget | preview
deriving DecidableEq, Repr

/-- The build in progress (Table 6-1). -/
structure Build where
  kind : BuildKind
  pair : Pair
  inputs : BuildInputs
deriving DecidableEq, Repr

/-- The disposition of a preview plan's member (R104). -/
inductive Disposition where
  | move (source : Int) (segments : Nat)
  | noMove
  | unavailable
deriving DecidableEq, Repr

/-- One member entry of a preview plan (R104, R106). -/
structure PreviewMember where
  turbine : Nat
  target : Int
  disposition : Disposition
deriving DecidableEq, Repr

/-- One wave of a preview plan (R104). -/
structure PreviewWave where
  row : Nat
  offset : Nat
  delay : Option Nat
  members : List PreviewMember
deriving DecidableEq, Repr

/-- A preview plan (R104). -/
structure PreviewPlan where
  pair : Pair
  speed : Nat
  trim : Nat
  waves : List PreviewWave
  second : Nat
deriving DecidableEq, Repr

/-- The Planner (Tables 6-1 and 6-2). -/
structure Planner where
  latch : Option Pair
  build : Option Build
  preview : Option PreviewPlan
  modeIn : Mode
  holdIn : Bool
  commitIn : Bool
  params : PlanParams
deriving DecidableEq, Repr

/-! ### Release Gate (section 7) -/

/-- One wave of a plan record (Table 6-3). `firstGranted` tells whether a record of the wave has been granted, which R120,
step 8 needs. -/
structure Wave where
  row : Nat
  offset : Nat
  delay : Option Nat
  sequences : List Nat
  firstGranted : Bool
deriving DecidableEq, Repr

/-- A plan record (Table 6-3). -/
structure Plan where
  number : Nat
  pair : Pair
  speed : Nat
  trim : Nat
  waves : List Wave
  state : PlanState
  planTime : Nat
  failures : Nat
  nextWave : Nat
deriving DecidableEq, Repr

/-- The state of a move record (Table 7-2). -/
inductive RecordState where
  | pending | ready | inFlight | settled | failed | skipped | cancelled | superseded
deriving DecidableEq, Repr

/-- A move record (Table 7-2). -/
structure MoveRecord where
  sequence : Nat
  plan : Nat
  cls : MoveClass
  turbine : Nat
  wave : Option Nat
  source : Int
  target : Int
  segments : Nat
  done : Nat
  segmentTarget : Option Int
  grantTime : Option Nat
  state : RecordState
  cause : Option FinishCause
  finishTime : Option Nat
deriving DecidableEq, Repr

/-- The fate of a segment in flight (R120, R126). -/
inductive Fate where
  | own | urgent | superseded | aborted
deriving DecidableEq, Repr

/-- A segment in flight (Table 7-1): `expires` is its timeout, or in DRY its simulated settle timer. -/
structure Flight where
  record : Nat
  turbine : Nat
  segment : Int
  target : Int
  expires : Nat
  simulated : Bool
  fate : Fate
deriving DecidableEq, Repr

/-- The Release Gate (Table 7-1). The Move Ring is in creation order, oldest first. A turbine's busy mark is the presence of
its segment in `flights`. `scanDue` tells whether a cause for a scan has arisen since the last scan (R117). DESIGN CHOICE
(log entry 26). -/
structure Gate where
  installed : Option Plan
  last : Option Plan
  planCounter : Nat
  steered : Option Pair
  ring : List MoveRecord
  recordCounter : Nat
  normalQueue : List Nat
  urgentQueue : List Nat
  flights : List Flight
  components : Table Int
  requestHold : Bool
  lineHold : Bool
  budgets : List Nat
  urgentBudget : Nat
  modeIn : Mode
  scanDue : Bool
deriving DecidableEq, Repr

/-! ### Bias Upkeep (section 8) -/

/-- Bias Upkeep (Table 8-1). A refresh state is WAITING when the index is in `waitList`, RUNNING when `refresh` holds a
timer, STOPPED otherwise. -/
structure Upkeep where
  controllerBias : Table Int
  refresh : Table Timer
  waitList : List Nat
  modeIn : Mode
deriving DecidableEq, Repr

/-! ### Arrival Monitor (section 9) -/

/-- The outcome of a decided watch (Table 9-2). -/
inductive WatchOutcome where
  | early | late | onTime | none | void
deriving DecidableEq, Repr

/-- Why a watch is unwatched (Table 9-2). -/
inductive UnwatchedReason where
  | noReference | noBaseline | notArmed
deriving DecidableEq, Repr

/-- The state of a watch, with the outcome or reason that goes with it (Table 9-2). -/
inductive WatchState where
  | waiting | armed
  | decided (o : WatchOutcome)
  | unwatched (r : UnwatchedReason)
deriving DecidableEq, Repr

/-- A watch record (Table 9-2); `window` is the running window timer. -/
structure Watch where
  index : Nat
  upwind : Nat
  downwind : Nat
  delay : Nat
  reference : Option Nat
  release : Option Nat
  state : WatchState
  armed : Option Nat
  baseline : Option Nat
  threshold : Option Nat
  windowLength : Option Nat
  window : Timer
  observed : Option Nat
  power : Option Nat
deriving DecidableEq, Repr

/-- The monitored plan (Table 9-1). -/
structure MonitoredPlan where
  number : Nat
  pair : Pair
  trim : Nat
deriving DecidableEq, Repr

/-- The vote in the arrival table's header (R153, R154). -/
inductive Vote where
  | taken (net : Int) (before after : Nat)
  | off
  | notTaken
deriving DecidableEq, Repr

/-- The way a monitored plan ended (R152, R153). -/
inductive PlanEnd where
  | complete | aborted | superseded
deriving DecidableEq, Repr

/-- The arrival table: header and entries (R152, R153). -/
structure ArrivalTable where
  plan : MonitoredPlan
  ended : PlanEnd
  second : Nat
  vote : Vote
  entries : List Watch
deriving DecidableEq, Repr

/-- The Arrival Monitor (Table 9-1). A trim is 64 where unlisted. -/
structure Monitor where
  trims : Table Nat
  watches : List Watch
  plan : Option MonitoredPlan
  arrivals : Option ArrivalTable
  theta : Nat
  tau : Nat
  learning : Bool
  modeIn : Mode
deriving DecidableEq, Repr

/-! ### Mode Controller (section 10) -/

/-- One discrete line: configuration, level last seen, and state (Table 10-1). -/
structure LineState where
  config : LineConfig
  level : Level
  isActive : Bool
deriving DecidableEq, Repr

/-- The latest-cause record (Table 10-1). -/
structure LatestCause where
  cause : ModeCause
  second : Nat
  before : Mode
  after : Mode
deriving DecidableEq, Repr

/-- The Mode Controller (Table 10-1). -/
structure ModeController where
  mode : Mode
  storm : LineState
  gridhold : LineState
  latest : LatestCause
  unwindRecord : Option UnwindRecord
  steering : Bool
deriving DecidableEq, Repr

/-! ### Management Dispatcher (section 11) -/

/-- A reply built but not yet placed (R176). `newNode` is the node address that takes effect when it is placed (R25). -/
structure Reply where
  head : ReqHead
  body : List Byte
  restartReply : Bool
  newNode : Option Nat
deriving DecidableEq, Repr

/-- A notice in the pending set, composed (R179). -/
structure PendingNotice where
  cls : Nat
  event : Nat
  data : List Byte
  merged : Bool
deriving DecidableEq, Repr

/-- The Management Dispatcher. A unit is marked busy while its late request record is present; the pending set is in
entry order. -/
structure Dispatcher where
  held : List Reply
  plannerLate : Option ReqHead
  imageLate : Option ReqHead
  restartTaken : Bool
  pendingNotices : List PendingNotice
  destinations : List Nat
  fold : Nat
deriving DecidableEq, Repr

/-! ### Image Loader (section 12) -/

/-- The content of a configuration image (R185). -/
structure Image where
  node : Nat
  typeValue : Nat
  tagging : Bool
  statics : Table TurbineStatic
  rows : Table Row
  wind : WindParams
  bank : Bank
  valid : Bool
  plan : PlanParams
  budgets : List Nat
  urgentBudget : Nat
  trims : Table Nat
  theta : Nat
  tau : Nat
  learning : Bool
  storm : LineConfig
  gridhold : LineConfig
  destinations : List Nat
  fold : Nat
deriving DecidableEq, Repr, Inhabited

/-- The image as it stands in the external configuration memory (R185): the mark, the format number, the content and the
stored CRC-32. The content is held as values, the bytes it takes being `Config.contentBytes` and `Config.bankBytes` of them.
DESIGN CHOICE (log entry 8). -/
structure ImageBlock where
  mark : List Byte
  format : List Byte
  content : Image
  crc : BitVec 32
deriving DecidableEq, Repr

/-- The image state (section 12). -/
inductive ImageState where
  | valid | absent | corrupt
deriving DecidableEq, Repr

/-- The Image Loader, with the configuration memory it reads and writes. `save` holds the content of a running save
(R188, step 3); `memory` is `none` where no image was ever written. -/
structure ImageLoader where
  state : ImageState
  savedValid : Option Bool
  save : Option Image
  lastSave : Option (Bool × Nat)
  memory : Option ImageBlock
deriving DecidableEq, Repr

/-! ### The whole part -/

/-- The part. `powered` is false while reset is asserted and until start-up (R187). `clock` counts seconds since start-up;
the part timebase is its value modulo 2^32 (R4). `reports` holds the reports blocks have made and not yet taken, each as
the command that takes it; `notices` the notices made and not yet at the Dispatcher; `pending` the waiting commands. -/
structure State where
  powered : Bool
  clock : Nat
  line : LinePath
  fleet : Fleet
  wind : Wind
  tables : TableStore
  planner : Planner
  gate : Gate
  upkeep : Upkeep
  monitor : Monitor
  modes : ModeController
  dispatcher : Dispatcher
  image : ImageLoader
  reports : List Instr
  notices : List Notice
  pending : List Instr
deriving DecidableEq, Repr

/-- The reasons the machine could stop with a fault. The manual gives every command an effect in every state, so this type
has no constructor: no command of this model faults. -/
inductive Fault where
deriving DecidableEq, Repr

/-- The reasons a command could be refused. -/
inductive Refusal where
  /-- Raised by an arm of `exec` whose command has no meaning yet (safe: nothing is claimed of it). No arm raises it. -/
  | notModelled (mnemonic : String)
deriving DecidableEq, Repr

/-! ### Values after power-on -/

/-- A port after any reset: idle, not paused, no PAUSE waiting, the forward queue has the first turn (R40, R31). -/
def PortState.idle : PortState := ⟨none, none, none, true⟩

/-- The Line Path with factory parameters (R40). -/
def LinePath.factory : LinePath :=
  ⟨.idle, .idle, [], [], [], [], [], false, false, 0#8, .off, 65001, 0xA7C2, true⟩

/-- The Fleet Table without a VALID image (R20). -/
def Fleet.factory : Fleet := ⟨⟨[]⟩, ⟨[]⟩, ⟨[]⟩⟩

/-- The Wind Estimator with factory parameters (R65). -/
def Wind.factory : Wind := ⟨0, 0, false, 0, none, none, none, none, none, none, .off, .factory⟩

/-- The Table Store without a VALID image (R85). -/
def TableStore.factory : TableStore := ⟨.zeroed, .zeroed, .a, false, false, none, false, false, false⟩

/-- The Planner with factory parameters (R109). -/
def Planner.factory : Planner := ⟨none, none, none, .off, false, false, factoryPlanParams⟩

/-- The Release Gate with factory budgets (R131). -/
def Gate.factory : Gate :=
  ⟨none, none, 0, none, [], 0, [], [], [], ⟨[]⟩, false, false, [6, 6, 6, 6, 6, 6, 6, 6], 8, .off, false⟩

/-- Bias Upkeep after power-on (R144). -/
def Upkeep.factory : Upkeep := ⟨⟨[]⟩, ⟨[]⟩, [], .off⟩

/-- The Arrival Monitor with factory values (R158). -/
def Monitor.factory : Monitor := ⟨⟨[]⟩, [], none, none, 20, 10, false, .off⟩

/-- A line with the factory configuration and its input LOW (R174, section 12.6: internal pull-down). -/
def LineState.factory : LineState := ⟨⟨true, .rising⟩, .low, false⟩

/-- The Mode Controller with factory values (R174). -/
def ModeController.factory : ModeController :=
  ⟨.off, .factory, .factory, ⟨.powerOn, 0, .off, .off⟩, none, false⟩

/-- The Dispatcher with factory destinations (R184). -/
def Dispatcher.factory : Dispatcher := ⟨[], none, none, false, [], [0, 0, 0, 0], 1⟩

/-- The Image Loader after a start-up that found no image (R186, R187). -/
def ImageLoader.factory : ImageLoader := ⟨.absent, none, none, none, none⟩

/-- The part right after power-on and start-up, with a configuration memory that holds no image and both lines LOW (R187):
every block at its power-on values, factory parameters, mode OFF. DESIGN CHOICE (log entry 2). -/
def State.reset : State :=
  { powered := true, clock := 0, line := .factory, fleet := .factory, wind := .factory, tables := .factory,
    planner := .factory, gate := .factory, upkeep := .factory, monitor := .factory, modes := .factory,
    dispatcher := .factory, image := .factory, reports := [], notices := [], pending := [] }

end Sys2Proof.Machine
end

