-- ==== Sys2Proof/Machine/Ops.lean ====
section
/-! DEFINITION. The operations every block uses: the sparse table, the roundings and clamps of R2, the report and notice
paths between blocks, the part timebase and its timers, and the two shapes of an event's meaning. -/

namespace Sys2Proof.Machine

/-! ### The sparse table -/

/-- The value at index `k`: the first listed entry for it, or `d`, what an unlisted index has. -/
def Table.get {α : Type} (d : α) (t : Table α) (k : Nat) : α :=
  match t.cells.find? (fun c => c.1 == k) with
  | some c => c.2
  | none => d

/-- Put a cell in its place in a list whose indices rise. -/
def insertCell {α : Type} (k : Nat) (v : α) : List (Nat × α) → List (Nat × α)
  | [] => [(k, v)]
  | c :: cs => if k < c.1 then (k, v) :: c :: cs else c :: insertCell k v cs

/-- Set index `k` to `v`, keeping the canonical form: the entry for `k` is dropped, and put back only if `v` is not the
value of an unlisted index. -/
def Table.set {α : Type} [DecidableEq α] (d : α) (t : Table α) (k : Nat) (v : α) : Table α :=
  let others := t.cells.filter (fun c => c.1 != k)
  if v = d then ⟨others⟩ else ⟨insertCell k v others⟩

/-- Indices strictly rise. -/
def risingFrom {α : Type} : List (Nat × α) → Bool
  | [] => true
  | [_] => true
  | a :: b :: rest => decide (a.1 < b.1) && risingFrom (b :: rest)

/-- The canonical form: indices strictly rise and no entry equals the value of an unlisted index. -/
def Table.wf {α : Type} [DecidableEq α] (d : α) (t : Table α) : Bool :=
  risingFrom t.cells && t.cells.all (fun c => decide (c.2 ≠ d))

/-! ### Arithmetic (R2, section 1.5) -/

/-- Half up on non-negative quantities: the integer part of (2·num + den) / (2·den) (R2). -/
def halfUp (num den : Nat) : Nat := (2 * num + den) / (2 * den)

/-- Half away from zero of `x` over 256, as R46 and R48 compute it. -/
def halfAway256 (x : Int) : Int :=
  let m : Nat := (2 * x.natAbs + 256) / 512
  if x < 0 then -(m : Int) else (m : Int)

/-- Ceiling of a quotient of non-negative integers (R2). -/
def ceilDiv (num den : Nat) : Nat := (num + den - 1) / den

/-- Clamp a value to a range (section 1.5). -/
def clamp (lo hi x : Int) : Int := if x < lo then lo else if hi < x then hi else x

/-- Clamp a non-negative value to a range (section 1.5). -/
def clampNat (lo hi x : Nat) : Nat := if x < lo then lo else if hi < x then hi else x

/-- Take an angle into 0..3599 (section 1.5). -/
def into3600 (x : Int) : Nat := (x % 3600).toNat

/-- The wrapped difference of two directions, in -1799..1800 (section 1.5). -/
def wrapDiff (a b : Nat) : Int :=
  let d : Int := (a : Int) - (b : Int)
  if 1800 < d then d - 3600 else if d < -1799 then d + 3600 else d

/-- The commanded step from a remaining distance: its sign times the smaller of `m` and its magnitude (R98). -/
def signedStep (m : Nat) (rem : Int) : Int :=
  let k : Nat := min m rem.natAbs
  if rem < 0 then -(k : Int) else (k : Int)

/-- Replace element `i` of a list. -/
def setAt {α : Type} : List α → Nat → α → List α
  | [], _, _ => []
  | _ :: xs, 0, v => v :: xs
  | x :: xs, i + 1, v => x :: setAt xs i v

/-- A list with its elements numbered from `i`. -/
def numbered {α : Type} (i : Nat) : List α → List (Nat × α)
  | [] => []
  | x :: xs => (i, x) :: numbered (i + 1) xs

/-- No element of a list stands in it twice. -/
def distinct : List Nat → Bool
  | [] => true
  | x :: xs => !xs.contains x && distinct xs

/-! ### Reports, notices and the clock -/

/-- Make a report: it waits until the block it goes to takes it. -/
def State.report (c : Instr) (s : State) : State := { s with reports := s.reports ++ [c] }

/-- Take a report that has been made (nothing is removed where the command came from the queue unannounced). DESIGN CHOICE
(log entry 6). -/
def State.arrive (c : Instr) (s : State) : State := { s with reports := s.reports.erase c }

/-- Withdraw every report of one kind that is still under way, a later event having overtaken them. DESIGN CHOICE (log entry
20). -/
def State.withdraw (c : Instr) (s : State) : State := { s with reports := s.reports.filter fun x => decide (x ≠ c) }

/-- The reports under way that stand ahead of the report `c`; all of them where no block made `c`. -/
def reportsAhead (c : Instr) (reports : List Instr) : List Instr := reports.takeWhile fun x => decide (x ≠ c)

/-- Some reports under way are taken one after another: `take` tells what one does at its block. -/
def State.takeEach (take : Instr → State → State) (cs : List Instr) (s : State) : State :=
  cs.foldl (fun s c => take c (s.arrive c)) s

/-- A report of a kind that reaches its block in the order made is taken, and before it those of that kind that stand ahead of
it: `kind` tells the reports of the kind, `take` what one does at its block (R165, section 9). A report that no block made counts
as the last one made. DESIGN CHOICE (log entry 6). -/
def State.takeInOrder (kind : Instr → Bool) (take : Instr → State → State) (c : Instr) (s : State) : State :=
  take c ((s.takeEach take ((reportsAhead c s.reports).filter kind)).arrive c)

/-- Hand a notice toward the Dispatcher (R179). -/
def State.notify (n : Notice) (s : State) : State := { s with notices := s.notices ++ [n] }

/-- The part timebase: whole seconds, wrapping from 4294967295 to 0 (R4). -/
def State.now (s : State) : Nat := s.clock % Config.timebaseSpan

/-- Seconds from one timebase reading to a later one, across the wrap. DEDUCED (log entry 36). -/
def timebaseDiff (later earlier : Nat) : Nat :=
  (later + Config.timebaseSpan - earlier) % Config.timebaseSpan

/-- Hold is in effect while either source is set (R127). -/
def Gate.hold (g : Gate) : Bool := g.requestHold || g.lineHold

/-- Plan time runs while a plan is installed and hold is not in effect (R110). -/
def Gate.elapse (n : Nat) (g : Gate) : Gate :=
  if g.hold then g
  else { g with installed := g.installed.map (fun p => { p with planTime := p.planTime + n }) }

/-- A received pause runs down by quanta (R34). -/
def PortState.elapse (n : Nat) (p : PortState) : PortState :=
  { p with paused := p.paused.map (fun q => q - Config.quantaPerSecond * n) }

/-- Let `n` seconds pass: the timebase counts, plan time runs, received pauses run down. A running timer holds the second
at which it expires, so its remaining time falls by itself. -/
def State.elapse (n : Nat) (s : State) : State :=
  { s with
    clock := s.clock + n
    gate := s.gate.elapse n
    line := { s.line with sPort := s.line.sPort.elapse n, fPort := s.line.fPort.elapse n } }

/-- Start a timer at a length (R1). -/
def State.timer (s : State) (length : Nat) : Timer := some (s.clock + length)

/-- The seconds a running timer has left. -/
def State.remaining (s : State) (t : Timer) : Option Nat := t.map (fun d => d - s.clock)

/-- The expiry of a timer: the seconds it has left pass, and then `f` happens. A stopped timer does not expire. DESIGN
CHOICE (log entry 1). -/
def State.expire (t : Timer) (f : State → State) (s : State) : State :=
  match t with
  | none => s
  | some d => f (s.elapse (d - s.clock))

/-! ### The shapes of an event's meaning -/

/-- An event: it happens while the part is out of reset (R187), and no command of this part faults or is refused. -/
def State.event (f : State → State) (s : State) : Host.Outcome State Fault Refusal :=
  .next (if s.powered then f s else s)

/-- The taking of the report `c`: an event that removes it from the reports still under way. -/
def State.reported (c : Instr) (f : State → State) (s : State) : Host.Outcome State Fault Refusal :=
  State.event (fun s => f (s.arrive c)) s

/-! ### Ownership updates: one block of the state replaced -/

/-- Update the Line Path. -/
def State.onLine (f : LinePath → LinePath) (s : State) : State := { s with line := f s.line }
/-- Update the Fleet Table. -/
def State.onFleet (f : Fleet → Fleet) (s : State) : State := { s with fleet := f s.fleet }
/-- Update the Wind Estimator. -/
def State.onWind (f : Wind → Wind) (s : State) : State := { s with wind := f s.wind }
/-- Update the Table Store. -/
def State.onTables (f : TableStore → TableStore) (s : State) : State := { s with tables := f s.tables }
/-- Update the Planner. -/
def State.onPlanner (f : Planner → Planner) (s : State) : State := { s with planner := f s.planner }
/-- Update the Release Gate. -/
def State.onGate (f : Gate → Gate) (s : State) : State := { s with gate := f s.gate }
/-- Update Bias Upkeep. -/
def State.onUpkeep (f : Upkeep → Upkeep) (s : State) : State := { s with upkeep := f s.upkeep }
/-- Update the Arrival Monitor. -/
def State.onMonitor (f : Monitor → Monitor) (s : State) : State := { s with monitor := f s.monitor }
/-- Update the Mode Controller. -/
def State.onModes (f : ModeController → ModeController) (s : State) : State := { s with modes := f s.modes }
/-- Update the Dispatcher. -/
def State.onDispatcher (f : Dispatcher → Dispatcher) (s : State) : State := { s with dispatcher := f s.dispatcher }
/-- Update the Image Loader. -/
def State.onImage (f : ImageLoader → ImageLoader) (s : State) : State := { s with image := f s.image }

end Sys2Proof.Machine
end

