-- ==== Sys2Proof/Machine/Encoding.lean ====
section
/-! DEFINITION. Bytes and telegrams: byte order and field encodings (section 3.7, Tables 3-1 to 3-7), the telegram check
and the frame check sequence (R37), and the parsing and building of park telegrams (R22, R37, R38). -/

namespace Sys2Proof.Machine

/-! ### Byte order -/

/-- Byte `i` of a list, 0 past its end. -/
def byteAt (bs : List Byte) (i : Nat) : Nat := (bs.getD i 0#8).toNat

/-- The two-byte field at byte `i`, most significant byte first (section 3.7). -/
def fieldAt (bs : List Byte) (i : Nat) : Nat := byteAt bs i * 256 + byteAt bs (i + 1)

/-- A two-byte field taken as signed, in two's complement (section 3.7). -/
def signed16 (n : Nat) : Int := if n < 32768 then (n : Int) else (n : Int) - 65536

/-- The six-byte station address at byte `i` (Table 3-1). -/
def stationAt (bs : List Byte) (i : Nat) : Station :=
  BitVec.ofNat 48 (fieldAt bs i * 4294967296 + fieldAt bs (i + 2) * 65536 + fieldAt bs (i + 4))

/-- One byte. -/
def u8 (n : Nat) : List Byte := [BitVec.ofNat 8 n]

/-- Two bytes, most significant first. -/
def be16 (n : Nat) : List Byte := [BitVec.ofNat 8 (n / 256), BitVec.ofNat 8 n]

/-- Four bytes, most significant first. -/
def u32 (n : Nat) : List Byte := be16 (n / 65536) ++ be16 n

/-- Six bytes, most significant first. -/
def u48 (a : Station) : List Byte := be16 (a.toNat / 4294967296) ++ be16 (a.toNat / 65536) ++ be16 a.toNat

/-- An integer field of two bytes (Table 3-7). A value that does not fit is sent as two bytes the manual does not state. -/
def u16 (n : Nat) : List Byte := if n < 65536 then be16 n else be16 (Config.wideField n).toNat

/-- A signed field of two bytes, in two's complement (Table 3-7). -/
def i16 (x : Int) : List Byte :=
  if -32768 ≤ x ∧ x ≤ 32767 then be16 (x % 65536).toNat else be16 (Config.wideField x).toNat

/-! ### Checks -/

/-- One bit of the telegram check: shift left, and add the generator x^16 + x^12 + x^5 + 1 when a one falls out (R37). -/
def crc16Bit (c : BitVec 16) : BitVec 16 :=
  if c.msb then (c <<< 1) ^^^ 0x1021#16 else c <<< 1

/-- One byte of the telegram check, most significant bit first (R37). -/
def crc16Byte (c : BitVec 16) (b : Byte) : BitVec 16 :=
  Nat.repeat crc16Bit 8 (c ^^^ (b.setWidth 16 <<< 8))

/-- The telegram check: CRC-16 from 0xFFFF, not inverted (R37). -/
def telegramCheck (bs : List Byte) : BitVec 16 := bs.foldl crc16Byte 0xFFFF#16

/-- One bit of the CRC-32, least significant bit first (R185). -/
def crc32Bit (c : BitVec 32) : BitVec 32 :=
  if c.getLsbD 0 then (c >>> 1) ^^^ 0xEDB88320#32 else c >>> 1

/-- One byte of the CRC-32 (R185). -/
def crc32Byte (c : BitVec 32) (b : Byte) : BitVec 32 := Nat.repeat crc32Bit 8 (c ^^^ b.setWidth 32)

/-- The CRC-32 of R185: from all ones, least significant bit first, inverted. -/
def crc32 (bs : List Byte) : BitVec 32 := ~~~ (bs.foldl crc32Byte 0xFFFFFFFF#32)

/-- The Ethernet frame check sequence over a frame's other bytes, in the order its bytes are sent. The manual names the FCS
of Ethernet and does not define it. PRESUMED (log entry 11). -/
def fcsBytes (bs : List Byte) : List Byte :=
  let c := (crc32 bs).toNat
  [BitVec.ofNat 8 c, BitVec.ofNat 8 (c / 256), BitVec.ofNat 8 (c / 65536), BitVec.ofNat 8 (c / 16777216)]

/-- A frame's bytes before its FCS. -/
def frameBody (f : Frame) : List Byte := f.take (f.length - 4)

/-- The FCS matches and the length is 64 to 1518 bytes, FCS included (R21). -/
def frameIsGood (f : Frame) : Bool :=
  decide (64 ≤ f.length) && decide (f.length ≤ 1518) && (f.drop (f.length - 4) == fcsBytes (frameBody f))

/-! ### Telegrams -/

/-- A park telegram: the header fields, the tag when present, and the body (Tables 3-1 to 3-3). -/
structure Telegram where
  dest : Nat
  source : Nat
  kind : Nat
  flags : Byte
  sequence : Byte
  tag : Option (List Byte)
  body : List Byte
deriving DecidableEq, Repr

/-- Telegram kinds (Table 3-2). -/
def kindSample : Nat := 0x01
/-- Kind BIAS (Table 3-2). -/
def kindBias : Nat := 0x02
/-- Kind MREQ (Table 3-2). -/
def kindMreq : Nat := 0x10
/-- Kind MREP (Table 3-2). -/
def kindMrep : Nat := 0x11
/-- Kind NOTICE (Table 3-2). -/
def kindNotice : Nat := 0x12

/-- The tagged flag, bit 0 of the flags (Table 3-2). -/
def isTagged (flags : Byte) : Bool := flags.getLsbD 0
/-- The dry flag, bit 1 of the flags (Table 3-2). -/
def isDry (flags : Byte) : Bool := flags.getLsbD 1

/-- The flags with the tagged and dry flags set as given and bits 2-7 carried unchanged (Table 3-2). -/
def withFlags (flags : Byte) (tagged dry : Bool) : Byte :=
  (flags &&& 0xFC#8) ||| (if tagged then 1#8 else 0#8) ||| (if dry then 2#8 else 0#8)

/-- The header, tag and body as they are sent and checked (Tables 3-1, 3-2). -/
def telegramBytes (t : Telegram) : List Byte :=
  be16 t.dest ++ be16 t.source ++ u8 t.kind ++ [t.flags, t.sequence] ++ be16 t.body.length ++ t.tag.getD [] ++ t.body

/-- The frame that carries a telegram: laid out, checked, padded to 60 bytes and closed with its FCS (R37). -/
def buildFrame (dest source : Station) (typeValue : Nat) (t : Telegram) : Frame :=
  let bytes := telegramBytes t
  let front := u48 dest ++ u48 source ++ be16 typeValue ++ bytes ++ be16 (telegramCheck bytes).toNat
  let padded := front ++ List.replicate (60 - front.length) 0#8
  padded ++ fcsBytes padded

/-- The telegram of a park frame, when it is not malformed and its check matches (R22). -/
def parseTelegram (f : Frame) : Option Telegram :=
  let bytes := (frameBody f).drop 14
  let flags := bytes.getD 5 0#8
  let tagLength := if isTagged flags then 8 else 0
  let bodyLength := fieldAt bytes 7
  let checkAt := 9 + tagLength + bodyLength
  if bytes.length < checkAt + 2 then none
  else if be16 (telegramCheck (bytes.take checkAt)).toNat ≠ (bytes.drop checkAt).take 2 then none
  else some
    { dest := fieldAt bytes 0, source := fieldAt bytes 2, kind := byteAt bytes 4, flags := flags,
      sequence := bytes.getD 6 0#8,
      tag := if isTagged flags then some ((bytes.drop 9).take 8) else none,
      body := (bytes.drop (9 + tagLength)).take bodyLength }

/-- A received telegram rebuilt after an alteration: the Ethernet addresses and the type stay as received (R36, R37). -/
def rebuildFrame (f : Frame) (t : Telegram) : Frame :=
  buildFrame (stationAt f 0) (stationAt f 6) (fieldAt f 12) t

/-- The request an MREQ telegram carries (Table 3-6, R28). Envelope bytes the body is too short to hold are free. -/
def requestOf (f : Frame) (t : Telegram) : Request :=
  let envelope (i : Nat) : Byte := (t.body[i]?).getD (Config.missingEnvelopeByte i)
  { head := ⟨envelope 1, BitVec.ofNat 16 t.source, stationAt f 6⟩, unitCode := envelope 0, code := envelope 2,
    argLength := (envelope 3).toNat * 256 + (envelope 4).toNat, bodyLength := t.body.length, args := t.body.drop 5 }

/-- The PAUSE frame the part sends: group address 01-80-C2-00-00-01, the station address as source, type 0x8808, opcode 0x0001
and the pause time (section 3.5). The places of opcode and pause time, and the zeros that fill the frame to 60 bytes, are not
the manual's. PRESUMED (log entry 44). -/
def pauseFrame (quanta : Nat) : Frame :=
  let front := u48 0x0180C2000001#48 ++ u48 Config.stationAddress ++ be16 0x8808 ++ be16 0x0001 ++ be16 quanta
  let padded := front ++ List.replicate (60 - front.length) 0#8
  padded ++ fcsBytes padded

/-! ### Fields of arguments, results and event data (Table 3-7) -/

/-- A yes/no, on/off or set/clear value: numbered from 0 in the order the owning section lists the two values. DEDUCED (log
entry 7). Where the section has no such list the same codes are taken. DESIGN CHOICE (log entry 49). -/
def encFlag (b : Bool) : List Byte := u8 (if b then 0 else 1)

/-- The presence byte and, when present, the field. -/
def encOption {α : Type} (f : α → List Byte) : Option α → List Byte
  | none => u8 0
  | some x => u8 1 ++ f x

/-- The element count and the elements. -/
def encList {α : Type} (f : α → List Byte) (xs : List α) : List Byte :=
  u16 xs.length ++ (xs.map f).flatten

/-- A mode, with the codes of the steering tag and OFF as 0 (section 11.3). -/
def encMode : Mode → List Byte
  | .off => u8 0 | .live => u8 1 | .dry => u8 2 | .unwind => u8 3

/-- A yaw state (Table 3-4). -/
def encYaw : YawState → List Byte
  | .idle => u8 0 | .running => u8 1 | .fault => u8 2 | .locked => u8 3

/-- An availability (Table 3-3). -/
def encAvailability : Availability → List Byte
  | .unseen => u8 0 | .online => u8 1 | .stale => u8 2 | .fault => u8 3

/-- A plan state in a result or notice, READ_PLAN's and RESUMED's alike, in the order of Table 6-3. Table 3-7 lets RESUMED's be
the codes of Table 3-3 as well. DESIGN CHOICE (log entry 47). -/
def encPlanState : PlanState → List Byte
  | .running => u8 0 | .held => u8 1 | .draining => u8 2 | .complete => u8 3 | .aborted => u8 4 | .superseded => u8 5

/-- A cause of a mode change, in the order of Table 10-3 and R159. DEDUCED (log entry 7). -/
def encModeCause : ModeCause → List Byte
  | .enable => u8 0 | .dry => u8 1 | .disable => u8 2 | .unwindRequest => u8 3 | .storm => u8 4 | .unwindEnd => u8 5
  | .powerOn => u8 6 | .restart => u8 7

/-- The cause of an abort, in the order of Table 11-2. -/
def encAbortCause : AbortCause → List Byte
  | .failureLimit => u8 0 | .unwind => u8 1 | .disable => u8 2

/-- A finish cause, each value numbered where Table 7-2 first lists it. DEDUCED (log entry 7). -/
def encFinishCause : FinishCause → List Byte
  | .timeout => u8 0 | .yawFault => u8 1 | .locked => u8 2 | .stale => u8 3 | .unavailable => u8 4 | .abort => u8 5
  | .disable => u8 6 | .restart => u8 7

/-- A bank letter (R66). -/
def encLetter : Letter → List Byte
  | .a => u8 0 | .b => u8 1

/-- The active edge of a line (Table 10-1). -/
def encEdge : Edge → List Byte
  | .rising => u8 0 | .falling => u8 1

/-- A level (Table 10-1). -/
def encLevel : Level → List Byte
  | .high => u8 0 | .low => u8 1

/-- A pair: sector, then band. -/
def encPair (p : Pair) : List Byte := u16 p.sector ++ u16 p.band

/-- The outcome of an unwind (Table 10-1). -/
def encUnwindOutcome : UnwindOutcome → List Byte
  | .inProgress => u8 0 | .complete => u8 1 | .incomplete => u8 2

/-- The unwind record, in the order of Table 10-1. -/
def encUnwind (r : UnwindRecord) : List Byte :=
  encUnwindOutcome r.outcome ++ u32 r.startSecond ++ encOption u32 r.endSecond ++ u16 r.planAborted ++ u16 r.created ++
    u16 r.settled ++ u16 r.failed ++ u16 r.skipped ++ u16 r.cancelled

end Sys2Proof.Machine
end

