-- ==== Sys2Proof/Machine/Operands.lean ====
section
/-! DEFINITION. The operand forms of a management request: the decoding of argument bytes (Table 3-7) in the order of
Table 11-3, the envelope check of R175 that needs no state, and the row a request in the inbox stands for. -/

namespace Sys2Proof.Machine

/-- A reader of argument bytes: the value read and the bytes left, or none where a field is missing. -/
abbrev Reader (α : Type) := List Byte → Option (α × List Byte)

/-- Read nothing. -/
def Reader.done {α : Type} (x : α) : Reader α := fun bs => some (x, bs)

/-- Read one field and go on with the rest. -/
def Reader.next {α β : Type} (r : Reader α) (k : α → Reader β) : Reader β := fun bs =>
  match r bs with
  | none => none
  | some (x, rest) => k x rest

/-- All the bytes, decoded: none where bytes are left over after the last field (R175). -/
def Reader.all {α : Type} (r : Reader α) (bs : List Byte) : Option α :=
  match r bs with
  | some (x, []) => some x
  | _ => none

/-- One byte. -/
def readU8 : Reader Nat
  | b :: rest => some (b.toNat, rest)
  | [] => none

/-- A two-byte integer, most significant byte first. -/
def readU16 : Reader Nat
  | a :: b :: rest => some (a.toNat * 256 + b.toNat, rest)
  | _ => none

/-- A two-byte signed quantity. -/
def readI16 : Reader Int := Reader.next readU16 (fun n => .done (signed16 n))

/-- A four-byte integer. -/
def readU32 : Reader Nat := Reader.next readU16 (fun a => Reader.next readU16 (fun b => .done (a * 65536 + b)))

/-- A byte that is one of the codes of `f`. -/
def readCode {α : Type} (f : Nat → Option α) : Reader α :=
  Reader.next readU8 (fun n bs => (f n).map (fun x => (x, bs)))

/-- A flag: numbered from 0 in the order its two values are listed (Table 3-7). DEDUCED (log entry 7). -/
def flagOfCode : Nat → Option Bool
  | 0 => some true
  | 1 => some false
  | _ => none

/-- The active edge of a line (Table 10-1). -/
def edgeOfCode : Nat → Option Edge
  | 0 => some .rising
  | 1 => some .falling
  | _ => none

/-- The role of a bank (R73). -/
def roleOfCode : Nat → Option Role
  | 0 => some .active
  | 1 => some .shadow
  | _ => none

/-- The selector of READ_ARRIVALS (R157). -/
def selectorOfCode : Nat → Option Selector
  | 0 => some .current
  | 1 => some .last
  | _ => none

/-- A field that may be absent: a presence byte of 0 or 1, and the field only when present (Table 3-7, R175). -/
def readOption {α : Type} (r : Reader α) : Reader (Option α) := fun bs =>
  match readU8 bs with
  | some (0, rest) => some (none, rest)
  | some (1, rest) => Reader.next r (fun x => .done (some x)) rest
  | _ => none

/-- `n` elements. -/
def readMany {α : Type} (r : Reader α) : Nat → Reader (List α)
  | 0 => .done []
  | n + 1 => Reader.next r (fun x => Reader.next (readMany r n) (fun xs => .done (x :: xs)))

/-- A list: a two-byte count and that many elements (Table 3-7). -/
def readList {α : Type} (r : Reader α) : Reader (List α) := Reader.next readU16 (fun n => readMany r n)

/-- Two fields. -/
def readPair2 {α β : Type} (r : Reader α) (q : Reader β) : Reader (α × β) :=
  Reader.next r (fun x => Reader.next q (fun y => .done (x, y)))

/-- The arguments of SET_ROW. -/
def readSetRow : Reader SetRowArgs :=
  Reader.next readU16 fun row => Reader.next (readList readU16) fun ms =>
    Reader.next (readOption readU16) fun ref => .done ⟨row, ms, ref⟩

/-- The arguments of SET_CORRECTION. -/
def readSetCorrection : Reader SetCorrectionArgs :=
  Reader.next readU16 fun t => Reader.next readI16 fun c => Reader.next readU16 fun g => .done ⟨t, c, g⟩

/-- The arguments of SET_WIND_PARAMS. -/
def readSetWindParams : Reader SetWindParamsArgs :=
  Reader.next readU16 fun a => Reader.next readU16 fun b => Reader.next readU16 fun o => Reader.next readU16 fun wr =>
    Reader.next readU16 fun ws => Reader.next readU16 fun d => Reader.next readU16 fun h => .done ⟨a, b, o, wr, ws, d, h⟩

/-- The arguments of SET_BANDS. -/
def readSetBands : Reader SetBandsArgs :=
  Reader.next (readMany readU16 7) fun ts => Reader.next readU16 fun hs => .done ⟨ts, hs⟩

/-- The arguments of WRITE_OFFSETS. -/
def readWriteOffsets : Reader WriteOffsetsArgs :=
  Reader.next readU16 fun s => Reader.next readU16 fun b => Reader.next readU16 fun p => Reader.next readU16 fun st =>
    Reader.next readU16 fun c => Reader.next (readList readI16) fun vs => .done ⟨s, b, p, st, c, vs⟩

/-- The arguments of WRITE_SECTOR. -/
def readWriteSector : Reader WriteSectorArgs :=
  Reader.next readU16 fun s => Reader.next (readList readU16) fun o => Reader.next (readList readU16) fun x =>
    .done ⟨s, o, x⟩

/-- The arguments of READ_OFFSETS. -/
def readReadOffsets : Reader ReadOffsetsArgs :=
  Reader.next (readCode roleOfCode) fun r => Reader.next readU16 fun s => Reader.next readU16 fun b =>
    Reader.next readU16 fun p => Reader.next readU16 fun st => Reader.next readU16 fun c => .done ⟨r, s, b, p, st, c⟩

/-- The arguments of SET_PLAN_PARAMS. -/
def readSetPlanParams : Reader PlanParams :=
  Reader.next readU16 fun l => Reader.next readU16 fun m => Reader.next readU16 fun d => Reader.next readU16 fun gmin =>
    Reader.next readU16 fun gmax => Reader.next readU16 fun fl => Reader.next readU16 fun yr =>
      Reader.next readU16 fun tol => Reader.next readU16 fun mar => Reader.next readU16 fun f =>
        Reader.next readU16 fun r => .done ⟨l, m, d, gmin, gmax, fl, yr, tol, mar, f, r⟩

/-- The arguments of SET_BUDGETS. -/
def readSetBudgets : Reader SetBudgetsArgs :=
  Reader.next (readMany readU16 8) fun bs => Reader.next readU16 fun u => .done ⟨bs, u⟩

/-- The enabled flag and active edge of one line. -/
def readLineConfig : Reader LineConfig :=
  Reader.next (readCode flagOfCode) fun e => Reader.next (readCode edgeOfCode) fun d => .done ⟨e, d⟩

/-- The arguments of SET_ARRIVAL. -/
def readSetArrival : Reader SetArrivalArgs :=
  Reader.next readU16 fun th => Reader.next readU16 fun ta => Reader.next (readCode flagOfCode) fun l => .done ⟨th, ta, l⟩

/-- The arguments of SET_LINK. -/
def readSetLink : Reader SetLinkArgs :=
  Reader.next readU16 fun n => Reader.next readU16 fun t => Reader.next (readCode flagOfCode) fun g => .done ⟨n, t, g⟩

/-- The arguments of SET_NOTICES. -/
def readSetNotices : Reader SetNoticesArgs :=
  Reader.next (readMany readU16 4) fun ds => Reader.next readU16 fun e => .done ⟨ds, e⟩

/-- No arguments. -/
def readNone : Reader Unit := .done ()

/-- The command of a unit and request code (Table 11-3), with its arguments decoded, or none where the unit or the code is
not known (R175, check 2). -/
def requestCommand (r : Request) : Option Instr :=
  let h := r.head
  let b := r.args
  match r.unitCode.toNat, r.code.toNat with
  | 1, 1 => some (.setTurbine h ((readPair2 readU16 readU16).all b))
  | 1, 2 => some (.clearTurbine h (Reader.all readU16 b))
  | 1, 3 => some (.setRow h (Reader.all readSetRow b))
  | 1, 4 => some (.setReference h ((readPair2 readU16 (readCode flagOfCode)).all b))
  | 1, 5 => some (.setCorrection h (Reader.all readSetCorrection b))
  | 1, 6 => some (.clearFault h (Reader.all readU16 b))
  | 1, 7 => some (.readTurbine h (Reader.all readU16 b))
  | 1, 8 => some (.readRow h (Reader.all readU16 b))
  | 2, 1 => some (.setWindParams h (Reader.all readSetWindParams b))
  | 2, 2 => some (.setBands h (Reader.all readSetBands b))
  | 2, 3 => some (.setSectors h (Reader.all readU16 b))
  | 2, 4 => some (.readEstimate h (Reader.all readNone b))
  | 3, 1 => some (.writeOffsets h (Reader.all readWriteOffsets b))
  | 3, 2 => some (.writeSector h (Reader.all readWriteSector b))
  | 3, 3 => some (.readOffsets h (Reader.all readReadOffsets b))
  | 3, 4 => some (.readSector h ((readPair2 (readCode roleOfCode) readU16).all b))
  | 3, 5 => some (.commit h (Reader.all readNone b))
  | 3, 6 => some (.cancelCommit h (Reader.all readNone b))
  | 3, 7 => some (.readTableState h (Reader.all readNone b))
  | 4, 1 => some (.setPlanParams h (Reader.all readSetPlanParams b))
  | 4, 2 => some (.retarget h (Reader.all readNone b))
  | 4, 3 => some (.preview h (((readPair2 readU16 readU16).all b).map (fun p => ⟨p.1, p.2⟩)))
  | 4, 4 => some (.readPreview h (Reader.all readU16 b))
  | 5, 1 => some (.hold h (Reader.all readNone b))
  | 5, 2 => some (.resume h (Reader.all readNone b))
  | 5, 3 => some (.setBudgets h (Reader.all readSetBudgets b))
  | 5, 4 => some (.readPlan h (Reader.all readNone b))
  | 5, 5 => some (.readMoves h ((readPair2 readU32 readU16).all b))
  | 6, 1 => some (.enable h (Reader.all readNone b))
  | 6, 2 => some (.dry h (Reader.all readNone b))
  | 6, 3 => some (.disable h (Reader.all readNone b))
  | 6, 4 => some (.unwind h (Reader.all readNone b))
  | 6, 5 => some (.setLines h ((readPair2 readLineConfig readLineConfig).all b))
  | 6, 6 => some (.readMode h (Reader.all readNone b))
  | 7, 1 => some (.setArrival h (Reader.all readSetArrival b))
  | 7, 2 => some (.readTrims h (Reader.all readNone b))
  | 7, 3 => some (.writeTrim h ((readPair2 readU16 readU16).all b))
  | 7, 4 => some (.readArrivals h (Reader.all (readCode selectorOfCode) b))
  | 8, 1 => some (.setLink h (Reader.all readSetLink b))
  | 8, 2 => some (.setNotices h (Reader.all readSetNotices b))
  | 8, 3 => some (.readLink h (Reader.all readNone b))
  | 9, 1 => some (.saveImage h (Reader.all readNone b))
  | 9, 2 => some (.readImageState h (Reader.all readNone b))
  | 10, 1 => some (.identify h (Reader.all readNone b))
  | 10, 2 => some (.restart h (Reader.all readNone b))
  | _, _ => none

/-- The body length is 5 plus the argument length (R175, check 3). -/
def lengthsAgree (r : Request) : Bool := r.bodyLength == 5 + r.argLength

/-- The row a request at the head of the inbox stands for: UNKNOWN_REQUEST where the envelope fails by itself (R175,
checks 1 to 3), and otherwise the request's own row. -/
def requestInstr (r : Request) : Instr :=
  match requestCommand r with
  | none => .unknownRequest r
  | some c => if r.head.transaction = 255#8 ∨ lengthsAgree r = false then .unknownRequest r else c

end Sys2Proof.Machine
end

