-- ==== Sys2Proof/Machine/Flags.lean ====
section
/-! DEFINITION. The flags and views that are computed from the state: the turbine and row views of the Fleet Table, the
status codes, the unit busy marks, a turbine's busy mark and move state, the state an installed plan shows, and the tests
of the parameter ranges. -/

namespace Sys2Proof.Machine

/-! ### Fleet views (section 2) -/

/-- The static fields of a turbine index. -/
def Fleet.static (f : Fleet) (t : Nat) : TurbineStatic := f.statics.get .unpopulated t

/-- The dynamic fields of a turbine index. -/
def Fleet.dynamic (f : Fleet) (t : Nat) : TurbineDynamic := f.dynamics.get .unseen t

/-- A row record. -/
def Fleet.row (f : Fleet) (r : Nat) : Row := f.rows.get .empty r

/-- The index names a turbine of the farm (Table 2-1). -/
def Fleet.populated (f : Fleet) (t : Nat) : Bool := (f.static t).address.isSome

/-- The node address map: the turbine a node address names (R5). -/
def Fleet.turbineAt (f : Fleet) (address : Nat) : Option Nat :=
  (f.statics.cells.find? (fun c => c.2.address == some address)).map (·.1)

/-- The row and position of a turbine, the place of its index in a member list (R3). -/
def Fleet.place (f : Fleet) (t : Nat) : Option (Nat × Nat) :=
  (f.rows.cells.find? (fun c => c.2.members.contains t)).map (fun c => (c.1, c.2.members.idxOf t))

/-- A row is populated exactly when its member list is not empty (R6). -/
def Fleet.rowPopulated (f : Fleet) (r : Nat) : Bool := !(f.row r).members.isEmpty

/-- The populated rows, in ascending order. -/
def Fleet.populatedRows (f : Fleet) : List Nat := (List.range Config.rows).filter f.rowPopulated

/-- The row a turbine is the arrival reference of (R9). -/
def Fleet.referenceRow (f : Fleet) (t : Nat) : Option Nat :=
  (f.rows.cells.find? (fun c => c.2.arrivalRef == some t)).map (·.1)

/-- Replace the dynamic fields of a turbine. -/
def Fleet.setDynamic (t : Nat) (d : TurbineDynamic) (f : Fleet) : Fleet :=
  { f with dynamics := f.dynamics.set .unseen t d }

/-- Replace the static fields of a turbine. -/
def Fleet.setStatic (t : Nat) (d : TurbineStatic) (f : Fleet) : Fleet :=
  { f with statics := f.statics.set .unpopulated t d }

/-- Replace a row record. -/
def Fleet.setRow (r : Nat) (w : Row) (f : Fleet) : Fleet := { f with rows := f.rows.set .empty r w }

/-! ### Status codes (Table 11-1) -/

/-- The status of a reply (Table 11-1). -/
inductive Status where
  | ok | busy | badArg | badMode | noTables | invalidTables | frozen | pending | notHeld | stillHeld | lineActive
  | noEstimate | overwritten | unknown | writeFailed
deriving DecidableEq, Repr

/-- The code of a status (Table 11-1). -/
def Status.code : Status → Nat
  | .ok => 0 | .busy => 1 | .badArg => 2 | .badMode => 3 | .noTables => 4 | .invalidTables => 5 | .frozen => 6
  | .pending => 7 | .notHeld => 8 | .stillHeld => 9 | .lineActive => 10 | .noEstimate => 11 | .overwritten => 12
  | .unknown => 13 | .writeFailed => 14

/-- The units (section 3.7). -/
def unitFleet : Nat := 1
/-- Unit WIND. -/
def unitWind : Nat := 2
/-- Unit TABLE. -/
def unitTable : Nat := 3
/-- Unit PLANNER. -/
def unitPlanner : Nat := 4
/-- Unit GATE. -/
def unitGate : Nat := 5
/-- Unit MODE. -/
def unitMode : Nat := 6
/-- Unit ARRIVAL. -/
def unitArrival : Nat := 7
/-- Unit LINK. -/
def unitLink : Nat := 8
/-- Unit IMAGE. -/
def unitImage : Nat := 9
/-- Unit INFO. -/
def unitInfo : Nat := 10

/-- A unit is marked busy while its late request is worked (R177). -/
def Dispatcher.unitBusy (d : Dispatcher) (u : Nat) : Bool :=
  (u == unitPlanner && d.plannerLate.isSome) || (u == unitImage && d.imageLate.isSome)

/-- The Dispatcher may take a request: it holds no held reply and RESTART has not been taken (R176). -/
def Dispatcher.ready (d : Dispatcher) : Bool := d.held.isEmpty && !d.restartTaken

/-! ### Gate views (section 7) -/

/-- The segment a turbine has in flight. -/
def Gate.flightOf (g : Gate) (t : Nat) : Option Flight := g.flights.find? (fun f => f.turbine == t)

/-- The busy mark of a turbine: set while it has a segment in flight (Table 7-1). -/
def Gate.busy (g : Gate) (t : Nat) : Bool := (g.flightOf t).isSome

/-- The steering component of a turbine (Table 7-1). -/
def Gate.component (g : Gate) (t : Nat) : Int := g.components.get 0 t

/-- A record of the Move Ring by its sequence number. -/
def Gate.record (g : Gate) (seq : Nat) : Option MoveRecord := g.ring.find? (fun r => r.sequence == seq)

/-- A record in one of the five final states is finished (R113). -/
def RecordState.finished : RecordState → Bool
  | .pending | .ready | .inFlight => false
  | .settled | .failed | .skipped | .cancelled | .superseded => true

/-- A record is one of a plan's NORMAL records. DEDUCED (log entry 27). -/
def MoveRecord.ofPlan (r : MoveRecord) (plan : Nat) : Bool := r.cls == .normal && r.plan == plan

/-- Every record of a plan in the Move Ring is finished (R111). -/
def Gate.planFinished (g : Gate) (plan : Nat) : Bool :=
  g.ring.all (fun r => !r.ofPlan plan || r.state.finished)

/-- Some URGENT record is unfinished (R129). -/
def Gate.urgentUnfinished (g : Gate) : Bool := g.ring.any (fun r => r.cls == .urgent && !r.state.finished)

/-- How many of a plan's records finished in a state (R111). -/
def Gate.countOf (g : Gate) (plan : Nat) (st : RecordState) : Nat :=
  g.ring.countP (fun r => r.ofPlan plan && r.state == st)

/-- The state an installed plan shows: HELD while hold is in effect, else RUNNING or DRAINING by its next wave (R111). -/
def Plan.shown (p : Plan) (hold : Bool) : PlanState :=
  if hold then .held else if p.nextWave < p.waves.length then .running else .draining

/-- The budget in force for NORMAL grants: B of the installed plan's band (R119). -/
def Gate.normalBudget (g : Gate) : Option Nat := g.installed.map (fun p => g.budgets.getD p.pair.band 0)

/-- The turbine move state of a steering tag (R35, Table 3-3). -/
def Gate.moveCode (g : Gate) (t : Nat) : Nat :=
  if g.busy t then 3
  else if g.ring.any (fun r => r.turbine == t && r.state == .ready) then 2
  else if g.ring.any (fun r => r.turbine == t && r.state == .pending) then 1
  else 0

/-- The plan state of a steering tag (R35, Table 3-3). -/
def Gate.planCode (g : Gate) : Nat :=
  match g.installed with
  | none => 0
  | some p => match p.state with
    | .running => 1
    | .held => 2
    | .draining => 3
    | .complete | .aborted | .superseded => 0

/-- The commanded bias of a turbine: controller bias plus steering component, clamped to the bias limit (R134). -/
def State.commandedBias (s : State) (t : Nat) : Int :=
  clamp (-(s.planner.params.biasLimit : Int)) s.planner.params.biasLimit
    (s.upkeep.controllerBias.get 0 t + s.gate.component t)

/-! ### Lines (section 10.4) -/

/-- A level is the active level of an edge (section 10.4). -/
def activeLevel : Edge → Level
  | .rising => .high
  | .falling => .low

/-- A line is ACTIVE when it is enabled and at its active level (R172, R174). -/
def lineIsActive (c : LineConfig) (v : Level) : Bool := c.enabled && v == activeLevel c.edge

/-! ### Parameter ranges -/

/-- A value lies in a range, both ends included. -/
def within (lo hi x : Nat) : Bool := decide (lo ≤ x) && decide (x ≤ hi)

/-- A signed value lies in a range, both ends included. -/
def withinInt (lo hi x : Int) : Bool := decide (lo ≤ x) && decide (x ≤ hi)

/-- The ranges of SET_WIND_PARAMS (Table 4-2). -/
def windRangesOk (a : SetWindParamsArgs) : Bool :=
  within 1 255 a.alpha && within 1 255 a.beta && within 100 1800 a.outlierLimit && within 5 120 a.wRef &&
    within 5 120 a.wStale && within 10 600 a.dwell && within 0 50 a.hysteresis

/-- Each threshold exceeds the one before it by more than 2·hs (R62). -/
def gapsOk (hs : Nat) : List Nat → Bool
  | a :: b :: rest => decide (a + 2 * hs < b) && gapsOk hs (b :: rest)
  | _ => true

/-- The conditions of SET_BANDS (R62). -/
def bandsOk (a : SetBandsArgs) : Bool :=
  a.thresholds.length == 7 && a.thresholds.all (within 0 400) && within 0 20 a.hs && gapsOk a.hs a.thresholds

/-- The sector counts (R63). -/
def sectorCountOk (n : Nat) : Bool := n == 12 || n == 24 || n == 36

/-- The ranges of SET_PLAN_PARAMS, gap_min above gap_max among what they refuse (Table 6-2, R108). -/
def planRangesOk (p : PlanParams) : Bool :=
  within 50 300 p.biasLimit && within 10 100 p.maxStep && within 0 20 p.deadband && within 10 900 p.gapMin &&
    within 10 900 p.gapMax && decide (p.gapMin ≤ p.gapMax) && within 20 80 p.floor && within 1 20 p.yawRate &&
    within 1 30 p.settleTol && within 10 600 p.settleMargin && within 1 16 p.failureLimit && within 5 120 p.refresh

/-- The ranges of SET_BUDGETS (R121). -/
def budgetsOk (a : SetBudgetsArgs) : Bool :=
  a.bands.length == 8 && a.bands.all (within 1 32) && within 1 32 a.urgent

/-- The ranges of SET_ARRIVAL (R155). -/
def arrivalRangesOk (a : SetArrivalArgs) : Bool := within 4 128 a.theta && within 2 60 a.tau

/-- The ranges of SET_LINK (R182). -/
def linkRangesOk (a : SetLinkArgs) : Bool :=
  within 1 65534 a.node && within 0x0600 0xFFFF a.typeValue && a.typeValue != 0x8808

/-- The ranges of SET_NOTICES (R181). -/
def noticesOk (a : SetNoticesArgs) : Bool :=
  a.destinations.length == 4 && a.destinations.all (within 0 65534) && (a.fold == 1 || a.fold == 2 || a.fold == 4)

end Sys2Proof.Machine
end

