-- ==== Sys2Proof/Machine/Egress.lean ====
section
/-! DEFINITION. The egress side of the Line Path and the Dispatcher's replies and notices: the egress arbiters (R31, R32),
the pauses the part asserts (R33), the injection queue (R30, R138), held replies (R176), the reply to a request (R178),
the taking of a request (R175, R176) and the movement of notices (R179, R180). -/

namespace Sys2Proof.Machine

/-! ### Ports and pauses -/

/-- One port of the Line Path. -/
def LinePath.port (l : LinePath) : Port → PortState
  | .sPort => l.sPort
  | .fPort => l.fPort

/-- Replace one port of the Line Path. -/
def LinePath.setPort (l : LinePath) : Port → PortState → LinePath
  | .sPort, p => { l with sPort := p }
  | .fPort, p => { l with fPort := p }

/-- Begin a transmission at a port. -/
def State.transmit (p : Port) (t : Transmission) : State → State :=
  State.onLine fun l => l.setPort p { l.port p with transmission := some t }

/-- Make a PAUSE wait at a port, replacing one not yet sent; behind an idle transmitter it is sent at once (R31-R33).
DEDUCED (log entry 19). -/
def State.wantPause (p : Port) (quanta : Nat) (s : State) : State :=
  s.onLine fun l =>
    match (l.port p).transmission with
    | none => l.setPort p { l.port p with transmission := some ⟨pauseFrame quanta, false⟩, waitingPause := none }
    | some _ => l.setPort p { l.port p with waitingPause := some quanta }

/-- The forward queue fed by a port (R27). -/
def LinePath.forward (l : LinePath) : Port → List Frame
  | .sPort => l.s2f
  | .fPort => l.f2s

/-- Replace the forward queue fed by a port. -/
def LinePath.setForward (l : LinePath) : Port → List Frame → LinePath
  | .sPort, q => { l with s2f := q }
  | .fPort, q => { l with f2s := q }

/-- The pause asserted flag of the forward queue fed by a port (R33). -/
def LinePath.asserted (l : LinePath) : Port → Bool
  | .sPort => l.s2fAsserted
  | .fPort => l.f2sAsserted

/-- Replace the pause asserted flag of the forward queue fed by a port. -/
def LinePath.setAsserted (l : LinePath) : Port → Bool → LinePath
  | .sPort, b => { l with s2fAsserted := b }
  | .fPort, b => { l with f2sAsserted := b }

/-- The pause a departure from a forward queue releases: at depth 16 with the flag set (R33). -/
def State.forwardDeparted (p : Port) (s : State) : State :=
  if s.line.asserted p && (s.line.forward p).length == Config.pauseLow then
    (s.onLine fun l => l.setAsserted p false).wantPause p 0
  else s

/-- The pause an arrival at a forward queue asserts or renews: at depth 40 with the flag clear, at 40 or more with it set
(R33). -/
def State.forwardArrived (p : Port) (s : State) : State :=
  let depth := (s.line.forward p).length
  if s.line.asserted p then
    if Config.pauseHigh ≤ depth then s.wantPause p Config.pauseMax else s
  else if depth = Config.pauseHigh then
    (s.onLine fun l => l.setAsserted p true).wantPause p Config.pauseMax
  else s

/-- The other port: frames received at `p` leave by it. -/
def otherPort : Port → Port
  | .sPort => .fPort
  | .fPort => .sPort

/-- Send the head of the forward queue fed by `p`: it leaves as its transmission begins at the other port. -/
def State.sendForward (p : Port) (f : Frame) (rest : List Frame) (s : State) : State :=
  (s.onLine fun l =>
    let l := l.setForward p rest
    l.setPort (otherPort p)
      { l.port (otherPort p) with transmission := some ⟨f, false⟩, ownLast := false }).forwardDeparted p

/-! ### F-egress and the injection queue -/

/-- A departure from the injection queue is a room event, reported to the Release Gate, for which it is a cause for a scan
(R117), and to Bias Upkeep (R30). -/
def State.roomMade (s : State) : State :=
  (s.onGate fun g => { g with scanDue := true }).report .roomEvent

/-- Send the head of the injection queue. -/
def State.sendInjection (e : Injection) (rest : List Injection) (s : State) : State :=
  (s.onLine fun l => { l with
    injections := rest
    fPort := { l.fPort with transmission := some ⟨e.frame, false⟩, ownLast := true } }).roomMade

/-- The F-egress arbiter (R31). -/
def State.arbitrateF (s : State) : State :=
  let p := s.line.fPort
  if p.transmission.isSome then s
  else match p.waitingPause with
    | some q => s.onLine fun l => { l with
        fPort := { p with transmission := some ⟨pauseFrame q, false⟩, waitingPause := none } }
    | none =>
      if p.paused.isSome then s
      else match s.line.s2f, s.line.injections with
        | [], [] => s
        | f :: fs, [] => s.sendForward .sPort f fs
        | [], e :: es => s.sendInjection e es
        | f :: fs, e :: es => if p.ownLast then s.sendForward .sPort f fs else s.sendInjection e es

/-- The place of an entry in the injection queue: an URGENT entry joins behind the last URGENT one and ahead of every
NORMAL one, a NORMAL entry at the tail (R30). -/
def joinInjections (e : Injection) (q : List Injection) : List Injection :=
  match e.cls with
  | .normal => q ++ [e]
  | .urgent => q.takeWhile (fun x => x.cls == .urgent) ++ e :: q.dropWhile (fun x => x.cls == .urgent)

/-- The sequence number a telegram takes as it is queued, and the advance of the counter (R38). -/
def State.advanceSequence : State → State := State.onLine fun l => { l with sequence := l.sequence + 1#8 }

/-- The injected BIAS telegram of a turbine (R38). -/
def State.biasFrame (s : State) (address : Nat) (bias : Int) : Frame :=
  buildFrame (BitVec.allOnes 48) Config.stationAddress s.line.typeValue
    { dest := address, source := s.line.node, kind := kindBias, flags := 0#8, sequence := s.line.sequence, tag := none,
      body := i16 bias ++ u8 1 }

/-- The submission of a BIAS telegram carrying the turbine's commanded bias (R137, R140, R141). It joins the injection queue
by class while the Line Path's mode input is not OFF, and is otherwise discarded (R138). DESIGN CHOICE (log entry 35). -/
def State.submitBias (cls : MoveClass) (t : Nat) (s : State) : State :=
  match (s.fleet.static t).address with
  | none => s
  | some a =>
    if s.line.modeIn = .off ∨ Config.injectionCapacity ≤ s.line.injections.length then s
    else
      let e : Injection := ⟨cls, s.biasFrame a (s.commandedBias t)⟩
      (s.advanceSequence.onLine fun l => { l with injections := joinInjections e l.injections }).arbitrateF

/-! ### Replies and notices -/

/-- The telegram of a reply (R38, Table 3-6): built with the node address and sequence that stand as it is queued. -/
def State.replyFrame (s : State) (r : Reply) : Frame :=
  buildFrame r.head.sourceStation Config.stationAddress s.line.typeValue
    { dest := r.head.sourceNode.toNat, source := s.line.node, kind := kindMrep, flags := 0#8,
      sequence := s.line.sequence, tag := none, body := r.body }

/-- The telegram of a notice (R38, R180, Table 3-6). -/
def State.noticeFrame (s : State) (n : PendingNotice) (dest : Nat) : Frame :=
  buildFrame (BitVec.allOnes 48) Config.stationAddress s.line.typeValue
    { dest := dest, source := s.line.node, kind := kindNotice, flags := 0#8, sequence := s.line.sequence, tag := none,
      body := u8 255 ++ u8 n.cls ++ u8 n.event ++ u8 (if n.merged then 1 else 0) ++ u16 n.data.length ++ n.data }

/-- Place a reply at the tail of the reply queue; the node address a SET_LINK set takes effect with its reply (R25). -/
def State.enqueueReply (r : Reply) (s : State) : State :=
  let q : QueuedReply := ⟨s.replyFrame r, r.restartReply⟩
  s.advanceSequence.onLine fun l => { l with replies := l.replies ++ [q], node := r.newNode.getD l.node }

/-- At a departure the oldest held reply takes the freed place (R176). -/
def State.placeHeld (s : State) : State :=
  match s.dispatcher.held with
  | [] => s
  | r :: rest =>
    if s.line.replies.length < Config.replyCapacity then
      (s.onDispatcher fun d => { d with held := rest }).enqueueReply r
    else s

/-- The destination of a notice of a class: the class code modulo E (R179). -/
def Dispatcher.destination (d : Dispatcher) (cls : Nat) : Nat := d.destinations.getD (cls % d.fold) 0

/-- Move the first of these notices that has a destination; those whose address has become 0 are discarded (R180). -/
def State.moveFirstNotice : List PendingNotice → State → State
  | [], s => s.onDispatcher fun d => { d with pendingNotices := [] }
  | n :: rest, s =>
    let dest := s.dispatcher.destination n.cls
    if dest = 0 then s.moveFirstNotice rest
    else
      let q : QueuedReply := ⟨s.noticeFrame n dest, false⟩
      ((s.onDispatcher fun d => { d with pendingNotices := rest }).advanceSequence).onLine
        fun l => { l with replies := l.replies ++ [q] }

/-- The S-egress is ready for a notice: the reply queue is empty and the S-port is not paused (R29). -/
def LinePath.noticeReady (l : LinePath) : Bool := l.replies.isEmpty && l.sPort.paused.isNone

/-- The ready signal: while both conditions hold, and no reply is held, one notice is moved (R29, R180). -/
def State.signalReady (s : State) : State :=
  if s.line.noticeReady && s.dispatcher.held.isEmpty then s.moveFirstNotice s.dispatcher.pendingNotices else s

/-- Send a telegram of the reply queue, `rest` being the queue without it. -/
def State.sendReply (e : QueuedReply) (rest : List QueuedReply) (s : State) : State :=
  (s.onLine fun l => { l with
    replies := rest
    sPort := { l.sPort with transmission := some ⟨e.frame, e.restartReply⟩, ownLast := true } }).placeHeld.signalReady

/-- The S-egress arbiter (R32): a waiting PAUSE first; unless paused, the RESTART reply; then the two queues in turn.
DEDUCED (log entry 19). -/
def State.arbitrateS (s : State) : State :=
  let p := s.line.sPort
  if p.transmission.isSome then s
  else match p.waitingPause with
    | some q => s.onLine fun l => { l with
        sPort := { p with transmission := some ⟨pauseFrame q, false⟩, waitingPause := none } }
    | none =>
      if p.paused.isSome then s
      else match s.line.replies.find? (fun e => e.restartReply) with
        | some e => s.sendReply e (s.line.replies.erase e)
        | none => match s.line.f2s, s.line.replies with
          | [], [] => s
          | f :: fs, [] => s.sendForward .fPort f fs
          | [], e :: es => s.sendReply e es
          | f :: fs, e :: es => if p.ownLast then s.sendForward .fPort f fs else s.sendReply e es

/-- The egress arbiter of a port. -/
def State.arbitrate : Port → State → State
  | .sPort, s => s.arbitrateS
  | .fPort, s => s.arbitrateF

/-- Place a reply in the reply queue, or hold it if the queue is full (R176, R177). -/
def State.placeReply (r : Reply) (s : State) : State :=
  if s.line.replies.length < Config.replyCapacity then (s.enqueueReply r).arbitrateS
  else s.onDispatcher fun d => { d with held := d.held ++ [r] }

/-- The body of an MREP (Table 3-6, R178). -/
def replyBody (h : ReqHead) (unitCode : Nat) (st : Status) (result : List Byte) : List Byte :=
  u8 unitCode ++ [h.transaction] ++ u8 st.code ++ u16 result.length ++ result

/-- Answer a request (R178). -/
def State.answer (h : ReqHead) (unitCode : Nat) (st : Status) (result : List Byte) (s : State) : State :=
  s.placeReply ⟨h, replyBody h unitCode st result, false, none⟩

/-! ### The taking of a request -/

/-- The Dispatcher takes the request a command stands for (R176): it leaves the head of the inbox, or, where the inbox is
empty, its arrival and its taking are one. None where the Dispatcher takes no request now or another request is ahead.
DESIGN CHOICE (log entry 12). -/
def State.takeRequest (c : Instr) (s : State) : Option State :=
  if s.powered && s.dispatcher.ready then
    match s.line.inbox with
    | [] => some s
    | r :: rest =>
      if requestInstr r = c ∨ c = .unknownRequest r then some (s.onLine fun l => { l with inbox := rest }) else none
  else none

/-- A request handed to its unit (R175): taken, refused at the envelope with BAD_ARG or BUSY, or handed. -/
def State.handed (c : Instr) (h : ReqHead) (unitCode : Nat) (work : State → State) (s : State) :
    Host.Outcome State Fault Refusal :=
  .next <|
    match s.takeRequest c with
    | none => s
    | some s =>
      if h.transaction = 255#8 then s.answer h unitCode .badArg []
      else if s.dispatcher.unitBusy unitCode then s.answer h unitCode .busy []
      else work s

/-- A unit's answer at once: the state after its effect, the status and the result. -/
abbrev Answer := State × Status × List Byte

/-- A request answered within the event at which its unit takes it (R176). -/
def State.atOnce (c : Instr) (h : ReqHead) (unitCode : Nat) (work : State → Answer) (s : State) :
    Host.Outcome State Fault Refusal :=
  s.handed c h unitCode fun s =>
    let a := work s
    a.1.answer h unitCode a.2.1 a.2.2

/-- A request refused, nothing changed. -/
def refuse (st : Status) (s : State) : Answer := (s, st, [])

/-- A request taken and answered OK with an empty result. -/
def accept (s : State) : Answer := (s, .ok, [])

/-- A read: nothing changed, the result given (for a request of no arguments; BAD_ARG where bytes are left over, R175). -/
def readOnly (a : Option Unit) (result : State → List Byte) (s : State) : Answer :=
  match a with
  | none => refuse .badArg s
  | some _ => (s, .ok, result s)

/-- The answer to a late request (R177): the busy mark clears and the reply is built from the late request record. With no
record, as after a restart, the answer is discarded. -/
def State.lateAnswer (unitCode : Nat) (st : Status) (result : List Byte) (s : State) : State :=
  if unitCode = unitPlanner then
    match s.dispatcher.plannerLate with
    | none => s
    | some h => (s.onDispatcher fun d => { d with plannerLate := none }).answer h unitCode st result
  else
    match s.dispatcher.imageLate with
    | none => s
    | some h => (s.onDispatcher fun d => { d with imageLate := none }).answer h unitCode st result

end Sys2Proof.Machine
end

