-- ==== Sys2Proof/Machine/Fleet.lean ====
section
/-! DEFINITION. The Fleet Table (section 2): sample intake (R7-R10), the stale timer (R11), failure reports (R12) and the
requests of the FLEET unit (R13-R19). The three of these that are geometry requests (R14-R17) keep their conditions and effects
here and their meanings in Geometry.lean. -/

namespace Sys2Proof.Machine

/-! ### Sample intake -/

/-- The fields of a SAMPLE body (Table 3-4). -/
structure Sample where
  sequence : Nat
  direction : Nat
  speed : Nat
  power : Nat
  yawCode : Nat
  achieved : Int
deriving DecidableEq, Repr

/-- The fields of an 11-byte SAMPLE body (Table 3-4). -/
def sampleOf (body : List Byte) : Sample :=
  ⟨fieldAt body 0, fieldAt body 2, fieldAt body 4, fieldAt body 6, byteAt body 8, signed16 (fieldAt body 9)⟩

/-- The yaw state a code names (Table 3-4). -/
def yawOfCode : Nat → Option YawState
  | 0 => some .idle
  | 1 => some .running
  | 2 => some .fault
  | 3 => some .locked
  | _ => none

/-- The vane direction, when in range (R7). -/
def Sample.usableDirection (x : Sample) : Option Nat := if x.direction ≤ 3599 then some x.direction else none

/-- The wind speed, when in range (R7). -/
def Sample.usableSpeed (x : Sample) : Option Nat := if x.speed ≤ 600 then some x.speed else none

/-- The yaw state and achieved offset, when both are usable (R7). -/
def Sample.usableYaw (x : Sample) : Option (YawState × Int) :=
  match yawOfCode x.yawCode with
  | some y => if withinInt (-1800) 1800 x.achieved then some (y, x.achieved) else none
  | none => none

/-- The availability a used sample moves a turbine to (R10). -/
def availabilityAfter (a : Availability) (yaw : Option (YawState × Int)) : Availability :=
  match yaw with
  | some (.fault, _) => .fault
  | _ => if a = .fault then .fault else .online

/-- A sample is used unless its sequence is the one the record holds (R7). -/
def TurbineDynamic.uses (d : TurbineDynamic) (x : Sample) : Bool := d.sequence != some x.sequence

/-- The record after a used sample (R8, R10), its stale timer running to second `expires`. -/
def TurbineDynamic.afterSample (d : TurbineDynamic) (x : Sample) (now expires : Nat) : TurbineDynamic :=
  { availability := availabilityAfter d.availability x.usableYaw
    yaw := (x.usableYaw.map (·.1)).or d.yaw
    direction := x.usableDirection.or d.direction
    speed := x.usableSpeed.or d.speed
    power := some x.power
    achieved := (x.usableYaw.map (·.2)).or d.achieved
    time := some now
    sequence := some x.sequence
    stale := some expires }

/-- The Fleet Table takes a used sample of turbine `t`: the record is updated and the stale timer started at W_s (R8). -/
def State.recordSample (t : Nat) (x : Sample) (s : State) : State :=
  s.onFleet (Fleet.setDynamic t
    ((s.fleet.dynamic t).afterSample x s.now (s.clock + s.wind.params.wStale)))

/-! ### Stale timer and failure -/

/-- The expiry of a turbine's stale timer: ONLINE becomes STALE, and the timer is left stopped (R11). -/
def Fleet.staleExpired (t : Nat) (f : Fleet) : Fleet :=
  let d := f.dynamic t
  f.setDynamic t
    { d with availability := if d.availability = .online then .stale else d.availability, stale := none }

/-- STALE_EXPIRY (R11). -/
def execStaleExpiry (t : Nat) (s : State) : Host.Outcome State Fault Refusal :=
  State.event (fun s => s.expire (s.fleet.dynamic t).stale (State.onFleet (Fleet.staleExpired t))) s

/-- The Gate's failure report: the turbine becomes FAULT, nothing else of the record changes (R12). -/
def Fleet.failureReported (t : Nat) (f : Fleet) : Fleet :=
  f.setDynamic t { f.dynamic t with availability := .fault }

/-! ### Requests -/

/-- The turbine index is in range and populated. -/
def State.knownTurbine (s : State) (t : Nat) : Bool := decide (t < Config.turbines) && s.fleet.populated t

/-- Another turbine holds the address in the node address map (R15). -/
def Fleet.addressHeldByOther (f : Fleet) (t address : Nat) : Bool :=
  f.statics.cells.any (fun c => c.1 != t && c.2.address == some address)

/-- The conditions of SET_TURBINE (R15). -/
def State.setTurbineOk (s : State) (t address : Nat) : Bool :=
  decide (t < Config.turbines) && within 1 65534 address && !s.fleet.addressHeldByOther t address &&
    address != s.line.node

/-- The effect of SET_TURBINE by the record's state (R15, R3). -/
def Fleet.setTurbine (t address : Nat) (f : Fleet) : Fleet :=
  let r := f.static t
  match r.address with
  | none => (f.setStatic t ⟨some address, false, 0, 4096⟩).setDynamic t .unseen
  | some old =>
    if old = address then f
    else (f.setStatic t { r with address := some address }).setDynamic t .unseen

/-- A row without a turbine (R16, step 2). -/
def Row.without (t : Nat) (r : Row) : Row :=
  ⟨r.members.erase t, if r.arrivalRef = some t then none else r.arrivalRef⟩

/-- The effect of CLEAR_TURBINE (R16). -/
def Fleet.clearTurbine (t : Nat) (f : Fleet) : Fleet :=
  let f := match f.place t with
    | some (r, _) => f.setRow r ((f.row r).without t)
    | none => f
  (f.setStatic t .unpopulated).setDynamic t .unseen

/-- The conditions of SET_ROW (R17). -/
def State.setRowOk (s : State) (x : SetRowArgs) : Bool :=
  decide (x.row < Config.rows) && decide (x.members.length ≤ Config.rowMembers) &&
    x.members.all s.knownTurbine && distinct x.members &&
    x.members.all (fun m => !s.fleet.rows.cells.any (fun c => c.1 != x.row && c.2.members.contains m)) &&
    (match x.arrivalRef with
      | none => true
      | some r => x.members.contains r)

/-- SET_REFERENCE (R18). -/
def execSetReference (h : ReqHead) (a : Option (Nat × Bool)) (s : State) : Host.Outcome State Fault Refusal :=
  s.atOnce (.setReference h a) h unitFleet fun s =>
    match a with
    | none => refuse .badArg s
    | some (t, on) =>
      if s.knownTurbine t then
        accept (s.onFleet fun f => f.setStatic t { f.static t with reference := on })
      else refuse .badArg s

/-- The ranges of a correction (R18, Table 2-1). -/
def correctionOk (c : Int) (g : Nat) : Bool := withinInt (-300) 300 c && within 2048 4096 g

/-- SET_CORRECTION (R18). -/
def execSetCorrection (h : ReqHead) (a : Option SetCorrectionArgs) (s : State) : Host.Outcome State Fault Refusal :=
  s.atOnce (.setCorrection h a) h unitFleet fun s =>
    match a with
    | none => refuse .badArg s
    | some x =>
      if s.knownTurbine x.turbine && correctionOk x.offset x.gain then
        accept (s.onFleet fun f => f.setStatic x.turbine { f.static x.turbine with offset := x.offset, gain := x.gain })
      else refuse .badArg s

/-- The effect of CLEAR_FAULT: FAULT becomes ONLINE while the stale timer runs, STALE otherwise (R13). -/
def Fleet.clearFault (t : Nat) (f : Fleet) : Fleet :=
  let d := f.dynamic t
  if d.availability = .fault then
    f.setDynamic t { d with availability := if d.stale.isSome then .online else .stale }
  else f

/-- CLEAR_FAULT (R13). -/
def execClearFault (h : ReqHead) (a : Option Nat) (s : State) : Host.Outcome State Fault Refusal :=
  s.atOnce (.clearFault h a) h unitFleet fun s =>
    match a with
    | none => refuse .badArg s
    | some t => if s.knownTurbine t then accept (s.onFleet (Fleet.clearFault t)) else refuse .badArg s

/-- The result of READ_TURBINE (R19): the populated flag alone for an unpopulated index. R19 does not say whether the flag also
begins the result of a populated one; it does here. DESIGN CHOICE (log entry 37). -/
def State.turbineResult (s : State) (t : Nat) : List Byte :=
  let r := s.fleet.static t
  let d := s.fleet.dynamic t
  match r.address with
  | none => encFlag false
  | some address =>
    encFlag true ++ u16 address ++ encOption u16 ((s.fleet.place t).map (·.1)) ++
      encOption u16 ((s.fleet.place t).map (·.2)) ++ encFlag r.reference ++ i16 r.offset ++ u16 r.gain ++
      encAvailability d.availability ++ encFlag d.stale.isSome ++ encOption encYaw d.yaw ++
      encOption u16 d.direction ++ encOption u16 d.speed ++ encOption u16 d.power ++ encOption i16 d.achieved ++
      encOption u32 d.time ++ encOption u16 d.sequence ++ u32 s.now

/-- READ_TURBINE (R19). -/
def execReadTurbine (h : ReqHead) (a : Option Nat) (s : State) : Host.Outcome State Fault Refusal :=
  s.atOnce (.readTurbine h a) h unitFleet fun s =>
    match a with
    | none => refuse .badArg s
    | some t => if t < Config.turbines then (s, .ok, s.turbineResult t) else refuse .badArg s

/-- The result of READ_ROW (R19). -/
def State.rowResult (s : State) (r : Nat) : List Byte :=
  encFlag (s.fleet.rowPopulated r) ++ encList u16 (s.fleet.row r).members ++ encOption u16 (s.fleet.row r).arrivalRef

/-- READ_ROW (R19). -/
def execReadRow (h : ReqHead) (a : Option Nat) (s : State) : Host.Outcome State Fault Refusal :=
  s.atOnce (.readRow h a) h unitFleet fun s =>
    match a with
    | none => refuse .badArg s
    | some r => if r < Config.rows then (s, .ok, s.rowResult r) else refuse .badArg s

end Sys2Proof.Machine
end

