-- ==== Sys2Proof/Machine/Estimator.lean ====
section
/-! DEFINITION. The Wind Estimator (section 4): correction, filters, quantization, dwell and triggers (R41-R60), and the
requests of the WIND unit and RETARGET (R60-R64), but for SET_SECTORS, whose meaning stands in Geometry.lean. -/

namespace Sys2Proof.Machine

/-! ### Correction (R42-R44) -/

/-- The corrected direction: the raw direction plus c_d, taken into 0..3599 (R42). -/
def correctedDirection (raw : Nat) (offset : Int) : Nat := into3600 ((raw : Int) + offset)

/-- The corrected speed: the raw speed times g over 4096, half up, clamped to 0..400 (R43). -/
def correctedSpeed (raw gain : Nat) : Nat := min (halfUp (raw * gain) 4096) 400

/-! ### The estimate (R45-R48) -/

/-- One filter step: the difference times the gain over 256, half away from zero (R46, R48). -/
def filterStep (difference : Int) (gain : Nat) : Int := halfAway256 (difference * gain)

/-- The direction of an accepted sample on a VALID estimate: moved by the filter, or counted as an outlier, the eighth of
which re-seeds (R46, R47). -/
def Wind.moveDirection (c : Nat) (w : Wind) : Wind :=
  let d := wrapDiff c w.direction
  if w.params.outlierLimit < d.natAbs then
    if 8 ≤ w.outlierRun + 1 then { w with direction := c, outlierRun := 0 }
    else { w with outlierRun := w.outlierRun + 1 }
  else { w with direction := into3600 ((w.direction : Int) + filterStep d w.params.alpha), outlierRun := 0 }

/-- The speed of an accepted sample on a VALID estimate (R48). -/
def Wind.moveSpeed (c : Nat) (w : Wind) : Wind :=
  { w with speed := ((w.speed : Int) + filterStep ((c : Int) - (w.speed : Int)) w.params.beta).toNat }

/-! ### Sector and band (R51-R53) -/

/-- The sector width (R51). -/
def sectorWidth (sectors : Nat) : Nat := 3600 / sectors

/-- The raw sector of a direction (R51). -/
def rawSector (sectors e : Nat) : Nat :=
  ((e + sectorWidth sectors / 2) % 3600) / sectorWidth sectors

/-- The raw band of a speed: the thresholds at or below it (R51). -/
def rawBand (thresholds : List Nat) (v : Nat) : Nat := thresholds.countP (fun t => decide (t ≤ v))

/-- The circular distance of a direction and an edge (R52). -/
def circularDistance (e edge : Nat) : Nat :=
  let d := ((e : Int) - (edge : Int)).natAbs
  min d (3600 - d)

/-- The distance of a direction to the nearer edge of a sector's span (R51, R52). -/
def edgeDistance (sectors e sector : Nat) : Nat :=
  let w := sectorWidth sectors
  min (circularDistance e ((sector * w + 3600 - w / 2) % 3600)) (circularDistance e ((sector * w + w / 2) % 3600))

/-- The candidate sector after an accepted sample (R52). -/
def nextSector (p : WindParams) (e : Nat) (candidate : Option Nat) : Nat :=
  let q := rawSector p.sectors e
  match candidate with
  | none => q
  | some c => if q = c then c else if p.hysteresis ≤ edgeDistance p.sectors e c then q else c

/-- The largest band above `b` that the speed clears by hs (R53). -/
def bandAbove (p : WindParams) (v b : Nat) : Option Nat :=
  ((List.range 8).filter (fun k => decide (b < k) && decide (p.thresholds.getD (k - 1) 0 + p.hs ≤ v))).getLast?

/-- The smallest band below `b` whose upper threshold the speed is below by more than hs (R53). -/
def bandBelow (p : WindParams) (v b : Nat) : Option Nat :=
  ((List.range 8).filter (fun k => decide (k < b) && decide (v + p.hs < p.thresholds.getD k 0))).head?

/-- The candidate band after an accepted sample (R53). -/
def nextBand (p : WindParams) (v : Nat) (candidate : Option Nat) : Nat :=
  match candidate with
  | none => rawBand p.thresholds v
  | some b => ((bandAbove p v b).or (bandBelow p v b)).getD b

/-- Quantize the candidates from the estimates as they stand (R52, R53). -/
def Wind.quantize (w : Wind) : Wind :=
  { w with
    candidateSector := some (nextSector w.params w.direction w.candidateSector)
    candidateBand := some (nextBand w.params w.speed w.candidateBand) }

/-- The candidate pair (R54). -/
def Wind.candidate (w : Wind) : Option Pair :=
  match w.candidateSector, w.candidateBand with
  | some s, some b => some ⟨s, b⟩
  | _, _ => none

/-! ### Dwell and triggers (R55-R59) -/

/-- The dwell after a trigger for a pair: that pair, SPENT, the timer stopped (R55). -/
def Wind.spend (p : Pair) (w : Wind) : Wind := { w with dwellTimer := none, dwellPair := some ⟨p, true⟩ }

/-- Issue a retarget trigger: the dwell pair is spent, the trigger goes to the Planner (R55). -/
def State.trigger (p : Pair) (s : State) : State := (s.onWind (Wind.spend p)).report (.retargetTrigger p)

/-- Stop the dwell: the timer stopped, the dwell pair absent (R50, R56, R58). -/
def Wind.clearDwell (w : Wind) : Wind := { w with dwellTimer := none, dwellPair := none }

/-- The evaluation of the dwell at second `clock` against the steered pair (R56). -/
def Wind.evaluateDwell (steered : Option Pair) (clock : Nat) (w : Wind) : Wind :=
  match w.candidate with
  | none => w
  | some p =>
    if steered = some p then w.clearDwell
    else if w.dwellPair.map (·.pair) = some p then w
    else { w with dwellTimer := some (clock + w.params.dwell), dwellPair := some ⟨p, false⟩ }

/-- The mode is LIVE or DRY. -/
def steering : Mode → Bool
  | .live | .dry => true
  | .off | .unwind => false

/-- What an accepted sample does to the estimate and the freshness timer at second `clock` (R45-R48, R50): an INVALID
estimate is seeded by a usable direction and otherwise left; a VALID one is moved. -/
def Wind.accept (clock : Nat) (direction : Option Nat) (speed : Nat) (w : Wind) : Wind :=
  if w.valid then
    let w := match direction with
      | some c => w.moveDirection c
      | none => w
    { w.moveSpeed speed with freshness := some (clock + w.params.wRef) }
  else match direction with
    | some c => { w with direction := c, speed := speed, outlierRun := 0, valid := true,
                         freshness := some (clock + w.params.wRef) }
    | none => w

/-- The arrival of a reference sample, whole (R41): correction and usability (R42-R44), the estimate, the candidates, and
in LIVE and DRY the dwell. -/
def Wind.arrival (r : ReferenceArrival) (steered : Option Pair) (clock : Nat) (w : Wind) : Wind :=
  match r.speed with
  | none => w
  | some raw =>
    let speed := correctedSpeed raw r.gain
    let direction := if 10 ≤ speed then r.direction.map (correctedDirection · r.offset) else none
    let w := { w with lastReference := some (r.turbine, r.time) }.accept clock direction speed
    if w.valid then
      let w := w.quantize
      if steering w.modeIn then w.evaluateDwell steered clock else w
    else w

/-- A reference sample taken by the Estimator (R41). -/
def State.takeReference (r : ReferenceArrival) (s : State) : State :=
  s.onWind (Wind.arrival r s.gate.steered s.clock)

/-- REFERENCE_SAMPLE (R41). -/
def execReferenceSample (r : ReferenceArrival) (s : State) : Host.Outcome State Fault Refusal :=
  State.event (State.takeReference r) s

/-- The freshness expiry (R50). -/
def Wind.freshnessExpired (w : Wind) : Wind :=
  { w with valid := false, outlierRun := 0, freshness := none, candidateSector := none, candidateBand := none,
           dwellTimer := none, dwellPair := none }

/-- FRESHNESS_EXPIRY (R50). -/
def execFreshnessExpiry (s : State) : Host.Outcome State Fault Refusal :=
  State.event (fun s => s.expire s.wind.freshness (State.onWind Wind.freshnessExpired)) s

/-- The dwell expiry: a trigger for the dwell pair, which becomes SPENT (R57). -/
def State.dwellExpired (s : State) : State :=
  match s.wind.dwellPair with
  | none => s.onWind fun w => { w with dwellTimer := none }
  | some d => s.trigger d.pair

/-- DWELL_EXPIRY (R57). -/
def execDwellExpiry (s : State) : Host.Outcome State Fault Refusal :=
  State.event (fun s => s.expire s.wind.dwellTimer State.dwellExpired) s

/-- The Estimator takes a mode report (R58, R59): OFF and UNWIND clear the dwell, LIVE and DRY trigger the candidate pair
of a VALID estimate. -/
def State.estimatorMode (m : Mode) (s : State) : State :=
  let s := s.onWind fun w => { w with modeIn := m }
  if steering m then
    if s.wind.valid then
      match s.wind.candidate with
      | some p => s.trigger p
      | none => s
    else s
  else s.onWind Wind.clearDwell

/-- The mode that a command reports to the Estimator. -/
def estimatorReportOf : Instr → Option Mode
  | .estimatorModeChange m => some m
  | _ => none

/-- The command is the taking of a report of a change of mode to the Estimator (R160). -/
def modeToEstimator (c : Instr) : Bool := (estimatorReportOf c).isSome

/-- What a report of a change of mode does at the Estimator; a command that is none to it does nothing there. -/
def State.takeAtEstimator (c : Instr) (s : State) : State :=
  match estimatorReportOf c with
  | some m => s.estimatorMode m
  | none => s

/-- ESTIMATOR_MODE_CHANGE (R58, R59), and before it the reports of earlier changes of mode that the Estimator has not taken: it
takes them in the order they were made (R160). DEDUCED (log entry 43). -/
def execEstimatorModeChange (m : Mode) (s : State) : Host.Outcome State Fault Refusal :=
  State.event (State.takeInOrder modeToEstimator State.takeAtEstimator (.estimatorModeChange m)) s

/-! ### Requests -/

/-- SET_WIND_PARAMS (R61). -/
def execSetWindParams (h : ReqHead) (a : Option SetWindParamsArgs) (s : State) : Host.Outcome State Fault Refusal :=
  s.atOnce (.setWindParams h a) h unitWind fun s =>
    match a with
    | none => refuse .badArg s
    | some x =>
      if windRangesOk x then
        accept (s.onWind fun w => { w with params := { w.params with
          alpha := x.alpha, beta := x.beta, outlierLimit := x.outlierLimit, wRef := x.wRef, wStale := x.wStale,
          dwell := x.dwell, hysteresis := x.hysteresis } })
      else refuse .badArg s

/-- SET_BANDS (R62). -/
def execSetBands (h : ReqHead) (a : Option SetBandsArgs) (s : State) : Host.Outcome State Fault Refusal :=
  s.atOnce (.setBands h a) h unitWind fun s =>
    match a with
    | none => refuse .badArg s
    | some x =>
      if bandsOk x then
        accept (s.onWind fun w => { w with params := { w.params with thresholds := x.thresholds, hs := x.hs } })
      else refuse .badArg s

/-- The effect of SET_SECTORS on the Estimator: S, and with a VALID estimate the candidate sector set to the raw sector
under the new S (R63). -/
def Wind.setSectors (n : Nat) (w : Wind) : Wind :=
  { w with
    params := { w.params with sectors := n }
    candidateSector := if w.valid then some (rawSector n w.direction) else w.candidateSector }

/-- The result of READ_ESTIMATE (R64). A timer is an optional field: its remaining seconds while it runs, and absent while it is
stopped. DESIGN CHOICE (log entry 37). -/
def State.estimateResult (s : State) : List Byte :=
  let w := s.wind
  let p := w.params
  encFlag w.valid ++ u16 w.direction ++ u16 w.speed ++ u16 w.outlierRun ++ encOption u16 (s.remaining w.freshness) ++
    u16 (rawSector p.sectors w.direction) ++ u16 (rawBand p.thresholds w.speed) ++ encOption u16 w.candidateSector ++
    encOption u16 w.candidateBand ++
    encOption (fun d : DwellPair => encPair d.pair ++ u8 (if d.spent then 1 else 0)) w.dwellPair ++
    encOption u16 (s.remaining w.dwellTimer) ++ encOption encPair s.gate.steered ++
    encOption (fun r : Nat × Nat => u16 r.1 ++ u32 r.2) w.lastReference ++
    u16 p.alpha ++ u16 p.beta ++ u16 p.outlierLimit ++ u16 p.wRef ++ u16 p.wStale ++ u16 p.dwell ++ u16 p.hysteresis ++
    (p.thresholds.map u16).flatten ++ u16 p.hs ++ u16 p.sectors ++ u32 s.now

/-- READ_ESTIMATE (R64). -/
def execReadEstimate (h : ReqHead) (a : Option Unit) (s : State) : Host.Outcome State Fault Refusal :=
  s.atOnce (.readEstimate h a) h unitWind (readOnly a State.estimateResult)

/-- RETARGET (R60), BUSY while a build is in progress (R107). DEDUCED (log entry 34). -/
def execRetarget (h : ReqHead) (a : Option Unit) (s : State) : Host.Outcome State Fault Refusal :=
  s.atOnce (.retarget h a) h unitPlanner fun s =>
    if s.planner.build.isSome then refuse .busy s
    else match a with
      | none => refuse .badArg s
      | some _ =>
        if !steering s.modes.mode then refuse .badMode s
        else if !s.wind.valid then refuse .noEstimate s
        else match s.wind.candidate with
          | none => refuse .noEstimate s
          | some p => (s.trigger p, .ok, encPair p)

end Sys2Proof.Machine
end

