-- ==== Sys2Proof/Machine/Tables.lean ====
section
/-! DEFINITION. The Table Store (section 5): the banks (R66-R69), writes and reads (R70-R73), validation (R75), commit and
swap (R76-R81), the refill (R82, R83) and READ_TABLE_STATE (R84). -/

namespace Sys2Proof.Machine

/-! ### Banks -/

/-- The bank of a letter. -/
def TableStore.bank (t : TableStore) : Letter → Bank
  | .a => t.bankA
  | .b => t.bankB

/-- Replace the bank of a letter. -/
def TableStore.setBank (t : TableStore) : Letter → Bank → TableStore
  | .a, k => { t with bankA := k }
  | .b, k => { t with bankB := k }

/-- The other letter. -/
def otherLetter : Letter → Letter
  | .a => .b
  | .b => .a

/-- The letter of the shadow bank (R66). -/
def TableStore.shadow (t : TableStore) : Letter := otherLetter t.active

/-- The letter a role names (R66). -/
def TableStore.letterOf (t : TableStore) : Role → Letter
  | .active => t.active
  | .shadow => t.shadow

/-- The active bank. -/
def TableStore.activeBank (t : TableStore) : Bank := t.bank t.active

/-- The place of an entry in the Offset Table. -/
def offsetKey (sector band turbine : Nat) : Nat := (sector * 8 + band) * 256 + turbine

/-- An Offset Table entry (R67). -/
def Bank.offset (k : Bank) (sector band turbine : Nat) : Int := k.offsets.get 0 (offsetKey sector band turbine)

/-- A sector record (R68). -/
def Bank.sector (k : Bank) (s : Nat) : SectorRecord := k.sectors.get .zeroed s

/-- Write an Offset Table entry, saturated to -300..300 (R71). -/
def Bank.writeOffset (sector band turbine : Nat) (v : Int) (k : Bank) : Bank :=
  { k with offsets := k.offsets.set 0 (offsetKey sector band turbine) (clamp (-300) 300 v) }

/-- Replace a sector record (R72). -/
def Bank.writeSector (s : Nat) (r : SectorRecord) (k : Bank) : Bank := { k with sectors := k.sectors.set .zeroed s r }

/-- The turbine index at the slot that value `i` of a run goes to: within the page, with the wrap from 63 to 0 (R71). -/
def slotTurbine (page start i : Nat) : Nat := 64 * page + (start + i) % 64

/-- Write a run of values in list order, value `i` being the next one (R71). -/
def Bank.writeRun (sector band page start : Nat) : Nat → List Int → Bank → Bank
  | _, [], k => k
  | i, v :: vs, k => Bank.writeRun sector band page start (i + 1) vs (k.writeOffset sector band (slotTurbine page start i) v)

/-! ### Writes and reads -/

/-- The first two checks of a table write (R70). -/
def TableStore.writeRefused (t : TableStore) : Option Status :=
  if t.refill.isSome then some .busy else if t.commitPending then some .frozen else none

/-- Change the shadow bank. -/
def TableStore.onShadow (f : Bank → Bank) (t : TableStore) : TableStore := t.setBank t.shadow (f (t.bank t.shadow))

/-- The sector, band, page and slot of a run are in range under the sector count in force (R71, R73). -/
def runOk (sectors sector band page start : Nat) : Bool :=
  decide (sector < sectors) && decide (band < 8) && decide (page < 4) && decide (start < 64)

/-- The conditions of WRITE_OFFSETS (R71). -/
def writeOffsetsOk (sectors : Nat) (x : WriteOffsetsArgs) : Bool :=
  runOk sectors x.sector x.band x.page x.start && within 1 128 x.count && x.values.length == x.count

/-- The conditions of WRITE_SECTOR (R72). -/
def writeSectorOk (sectors : Nat) (x : WriteSectorArgs) : Bool :=
  decide (x.sector < sectors) && within 1 16 x.order.length && x.order.all (fun r => decide (r < Config.rows)) &&
    x.spacings.length + 1 == x.order.length && x.spacings.all (within 100 3000)

/-- A table write: the checks of R70 in order, and the change of the shadow bank. -/
def State.tableWrite {α : Type} (a : Option α) (ok : α → Bool) (f : α → Bank → Bank) (s : State) : Answer :=
  match s.tables.writeRefused, a with
  | some st, _ => refuse st s
  | none, none => refuse .badArg s
  | none, some x => if ok x then accept (s.onTables (TableStore.onShadow (f x))) else refuse .badArg s

/-- WRITE_OFFSETS (R71). -/
def execWriteOffsets (h : ReqHead) (a : Option WriteOffsetsArgs) (s : State) : Host.Outcome State Fault Refusal :=
  s.atOnce (.writeOffsets h a) h unitTable fun s =>
    s.tableWrite a (writeOffsetsOk s.wind.params.sectors)
      (fun x => Bank.writeRun x.sector x.band x.page x.start 0 x.values)

/-- WRITE_SECTOR (R72). -/
def execWriteSector (h : ReqHead) (a : Option WriteSectorArgs) (s : State) : Host.Outcome State Fault Refusal :=
  s.atOnce (.writeSector h a) h unitTable fun s =>
    s.tableWrite a (writeSectorOk s.wind.params.sectors) (fun x => Bank.writeSector x.sector ⟨x.order, x.spacings⟩)

/-- A read of the shadow meets a running refill (R73, R83). -/
def TableStore.readBusy (t : TableStore) (r : Role) : Bool := r == .shadow && t.refill.isSome

/-- The values READ_OFFSETS returns, in slot order with the page wrap (R73). -/
def TableStore.readRun (t : TableStore) (x : ReadOffsetsArgs) : List Int :=
  (List.range x.count).map fun i =>
    (t.bank (t.letterOf x.role)).offset x.sector x.band (slotTurbine x.page x.start i)

/-- READ_OFFSETS (R73). DEDUCED (log entry 18). -/
def execReadOffsets (h : ReqHead) (a : Option ReadOffsetsArgs) (s : State) : Host.Outcome State Fault Refusal :=
  s.atOnce (.readOffsets h a) h unitTable fun s =>
    match a with
    | none => refuse .badArg s
    | some x =>
      if !(runOk s.wind.params.sectors x.sector x.band x.page x.start && within 1 64 x.count) then refuse .badArg s
      else if s.tables.readBusy x.role then refuse .busy s
      else (s, .ok, encList i16 (s.tables.readRun x))

/-- The result of READ_SECTOR (R73). -/
def TableStore.sectorResult (t : TableStore) (r : Role) (sector : Nat) : List Byte :=
  let x := (t.bank (t.letterOf r)).sector sector
  encList u16 x.order ++ encList u16 x.spacings

/-- READ_SECTOR (R73). DEDUCED (log entry 18). -/
def execReadSector (h : ReqHead) (a : Option (Role × Nat)) (s : State) : Host.Outcome State Fault Refusal :=
  s.atOnce (.readSector h a) h unitTable fun s =>
    match a with
    | none => refuse .badArg s
    | some (r, sector) =>
      if !decide (sector < s.wind.params.sectors) then refuse .badArg s
      else if s.tables.readBusy r then refuse .busy s
      else (s, .ok, s.tables.sectorResult r sector)

/-! ### Validation (R75) -/

/-- A sector record passes the five checks against the populated rows. -/
def sectorPasses (rows : List Nat) (x : SectorRecord) : Bool :=
  !x.order.isEmpty && x.order.all rows.contains && distinct x.order && rows.all x.order.contains &&
    x.spacings.length + 1 == x.order.length && x.spacings.all (within 100 3000)

/-- The first sector of 0..S-1 whose record fails, or none when validation passes. -/
def Bank.firstFailing (k : Bank) (rows : List Nat) (sectors : Nat) : Option Nat :=
  (List.range sectors).find? (fun i => !sectorPasses rows (k.sector i))

/-- The validation of a bank against the farm as it stands. -/
def State.validate (s : State) (k : Bank) : Option Nat := k.firstFailing s.fleet.populatedRows s.wind.params.sectors

/-! ### Commit and swap (R76-R80) -/

/-- Record a swap-condition input (R77). -/
def TableStore.setInput (r : SwapInput) (t : TableStore) : TableStore :=
  match r with
  | .planInstalled b => { t with planInstalled := b }
  | .plannerBuilding b => { t with plannerBuilding := b }
  | .saveInProgress b => { t with saveInProgress := b }

/-- The report that a build, a preview or a save has started, taken within the event that starts it: the input becomes yes, and
a report that it had become no, made earlier and still under way, is overtaken (R77, R81, R188). DESIGN CHOICE (log entry
20). -/
def State.reportCondition (r : Bool → SwapInput) (s : State) : State :=
  (s.arrive (.swapConditionReport (r false))).onTables (TableStore.setInput (r true))

/-- A COMMIT goes PENDING (R76). The Planner takes the report within the event, so that it starts no build while the commit
is pending, and every report that no commit is pending, made earlier and still under way, is overtaken (R79, R100). DESIGN
CHOICE (log entry 20). -/
def State.becomePending (s : State) : State :=
  ((s.withdraw (.commitStateReport false)).onTables fun t => { t with commitPending := true }).onPlanner fun q =>
    { q with commitIn := true }

/-- The three swap conditions (R76). -/
def TableStore.swapReady (t : TableStore) : Bool := !t.planInstalled && !t.plannerBuilding && !t.saveInProgress

/-- The swap: roles exchanged, VALID, no commit pending, the Planner told, a refill started (R78). -/
def State.swap (deferred : Bool) (s : State) : State :=
  (s.onTables fun t => { t with
    active := t.shadow, valid := true, commitPending := false,
    refill := some ⟨some (deferred, s.now)⟩ }).report (.commitStateReport false)

/-- COMMIT (R76). -/
def execCommit (h : ReqHead) (a : Option Unit) (s : State) : Host.Outcome State Fault Refusal :=
  s.atOnce (.commit h a) h unitTable fun s =>
    match a with
    | none => refuse .badArg s
    | some _ =>
      if s.tables.refill.isSome then refuse .busy s
      else if s.tables.commitPending then refuse .pending s
      else match s.validate (s.tables.bank s.tables.shadow) with
        | some sector => (s, .invalidTables, u16 sector)
        | none =>
          if s.tables.swapReady then accept (s.swap false)
          else (s.becomePending, .pending, [])

/-- CANCEL_COMMIT (R80). -/
def execCancelCommit (h : ReqHead) (a : Option Unit) (s : State) : Host.Outcome State Fault Refusal :=
  s.atOnce (.cancelCommit h a) h unitTable fun s =>
    match a with
    | none => refuse .badArg s
    | some _ =>
      if s.tables.commitPending then
        accept ((s.onTables fun t => { t with commitPending := false }).report (.commitStateReport false))
      else accept s

/-- A swap-condition report: the input is recorded, and a PENDING commit swaps if all three conditions hold (R77). -/
def State.swapConditionReported (r : SwapInput) (s : State) : State :=
  let s := s.onTables (TableStore.setInput r)
  if s.tables.commitPending && s.tables.swapReady then s.swap true else s

/-- The Gate's report on the installed plan that a command takes. -/
def planInstalledOf : Instr → Option Bool
  | .swapConditionReport (.planInstalled b) => some b
  | _ => none

/-- A list up to its last `true`. -/
def upToTrue : List Bool → List Bool
  | [] => []
  | b :: bs => if (b :: bs).contains true then b :: upToTrue bs else []

/-- Of the Gate's reports on the installed plan that stand ahead of the report `r`, those that the Table Store takes first (R77):
the Gate's own reports are taken in the order they were made, and "plan installed: yes" before a "Planner building: no" made
behind it. DEDUCED (log entry 48). -/
def takenFirst (r : SwapInput) (ahead : List Bool) : List Bool :=
  match r with
  | .planInstalled _ => ahead
  | .plannerBuilding false => upToTrue ahead
  | .plannerBuilding true | .saveInProgress _ => []

/-- The Gate's reports that the Table Store takes before the report `r`, of the reports under way. -/
def conditionsAhead (r : SwapInput) (reports : List Instr) : List Bool :=
  takenFirst r ((reportsAhead (.swapConditionReport r) reports).filterMap planInstalledOf)

/-- One swap-condition report is taken. -/
def State.takeCondition (r : SwapInput) (s : State) : State := (s.arrive (.swapConditionReport r)).swapConditionReported r

/-- A swap-condition report is taken, and before it those of the Gate that come first. -/
def State.takeConditions (r : SwapInput) (s : State) : State :=
  ((conditionsAhead r s.reports).foldl (fun s b => s.takeCondition (.planInstalled b)) s).takeCondition r

/-- SWAP_CONDITION_REPORT (R77). -/
def execSwapConditionReport (r : SwapInput) (s : State) : Host.Outcome State Fault Refusal :=
  State.event (State.takeConditions r) s

/-- The completion of a refill: the shadow is a copy of the active bank, and a refill that followed a swap sends
BANK_SWAPPED (R82). Until then the shadow holds what it held as the refill began: after a swap, the former active bank whole.
DESIGN CHOICE (log entry 40). -/
def State.refillCompleted (s : State) : State :=
  match s.tables.refill with
  | none => s
  | some r =>
    let s := s.onTables fun t => { (t.setBank t.shadow t.activeBank) with refill := none }
    match r.afterSwap with
    | none => s
    | some (deferred, second) => s.notify (.bankSwapped s.tables.active deferred second)

/-- REFILL_COMPLETION (R82). -/
def execRefillCompletion (s : State) : Host.Outcome State Fault Refusal :=
  State.event State.refillCompleted s

/-- The result of READ_TABLE_STATE (R84). -/
def State.tableStateResult (s : State) : List Byte :=
  let t := s.tables
  encLetter t.active ++ encFlag t.valid ++ u16 s.wind.params.sectors ++ u8 (if t.commitPending then 1 else 0) ++
    u8 (if t.refill.isSome then 1 else 0) ++ encOption (fun r : Refill => encFlag r.afterSwap.isSome) t.refill ++
    encFlag t.planInstalled ++ encFlag t.plannerBuilding ++ encFlag t.saveInProgress ++ u32 s.now

/-- READ_TABLE_STATE (R84). -/
def execReadTableState (h : ReqHead) (a : Option Unit) (s : State) : Host.Outcome State Fault Refusal :=
  s.atOnce (.readTableState h a) h unitTable (readOnly a State.tableStateResult)

end Sys2Proof.Machine
end

