-- ==== Sys2Proof/Machine/ArrivalMonitor.lean ====
section
/-! DEFINITION. The Arrival Monitor (section 9): watches (R147-R151), the end of a monitored plan and the vote
(R152-R154), its mode input (R160), the Gate's reports in the order made, its reports taken ahead of a build (R153), and the
requests of the ARRIVAL unit (R155-R157). -/

namespace Sys2Proof.Machine

/-! ### Watches -/

/-- The trim of a sector (R146). -/
def Monitor.trim (m : Monitor) (s : Nat) : Nat := m.trims.get 64 s

/-- The monitored plan is this one. -/
def Monitor.monitors (m : Monitor) (plan : Nat) : Bool := m.plan.map (·.number) == some plan

/-- Change the watch of a pair index. -/
def Monitor.onWatch (k : Nat) (f : Watch → Watch) (m : Monitor) : Monitor :=
  { m with watches := m.watches.map fun w => if w.index = k then f w else w }

/-- A watch as the install sets it up (R147): WAITING with the downwind row's arrival reference, or UNWATCHED. -/
def newWatch (f : Fleet) (k : Nat) (up down : WaveInfo) : Watch :=
  let ref := (f.row down.row).arrivalRef
  { index := k, upwind := up.row, downwind := down.row, delay := down.delay.getD 0, reference := ref, release := none,
    state := if ref.isSome then .waiting else .unwatched .noReference,
    armed := none, baseline := none, threshold := none, windowLength := none, window := none, observed := none,
    power := none }

/-- One watch per pair of adjacent waves, from pair index `k` (R147). -/
def newWatches (f : Fleet) (k : Nat) : List WaveInfo → List Watch
  | up :: down :: rest => newWatch f k up down :: newWatches f (k + 1) (down :: rest)
  | _ => []

/-- A watch closed with a plan that was aborted or superseded: VOID if WAITING or ARMED (R152). -/
def Watch.void (w : Watch) : Watch :=
  match w.state with
  | .waiting | .armed => { w with state := .decided .void, window := none }
  | .decided _ | .unwatched _ => w

/-- A watch closed at completion: NONE if ARMED, UNWATCHED if WAITING (R153). -/
def Watch.complete (w : Watch) : Watch :=
  match w.state with
  | .armed => { w with state := .decided .none, window := none }
  | .waiting => { w with state := .unwatched .notArmed }
  | .decided _ | .unwatched _ => w

/-- The monitored plan ends: the arrival table is replaced, the watches and the monitored plan become none (R152, R153). -/
def Monitor.close (p : MonitoredPlan) (ended : PlanEnd) (second : Nat) (vote : Vote) (ws : List Watch) (m : Monitor) :
    Monitor :=
  { m with arrivals := some ⟨p, ended, second, vote, ws⟩, watches := [], plan := none }

/-- The watches of a plan that was aborted or superseded are closed (R152). -/
def Monitor.voidPlan (plan : Nat) (ended : PlanEnd) (second : Nat) (m : Monitor) : Monitor :=
  match m.plan with
  | none => m
  | some p => if p.number = plan then m.close p ended second .notTaken (m.watches.map Watch.void) else m

/-- The install report (R147): a superseded monitored plan is closed, and in LIVE the new plan is monitored. -/
def Monitor.installed (f : Fleet) (i : InstallInfo) (second : Nat) (m : Monitor) : Monitor :=
  let m := match i.superseded with
    | some old => m.voidPlan old .superseded second
    | none => m
  if m.modeIn = .live then
    { m with plan := some ⟨i.plan, i.pair, i.trim⟩, watches := newWatches f 1 i.waves }
  else { m with plan := none, watches := [] }

/-- The Monitor takes the report of an install (R147). -/
def State.planInstalledAtMonitor (i : InstallInfo) (s : State) : State := s.onMonitor (Monitor.installed s.fleet i s.now)

/-- The report of a release (R148): it records the downwind release second of the wave's watch. -/
def Monitor.released (plan wave second : Nat) (m : Monitor) : Monitor :=
  if m.monitors plan ∧ wave ≠ 0 then m.onWatch wave fun w => { w with release := some second } else m

/-- The Monitor takes the report of a release (R148). -/
def State.waveReleasedAtMonitor (plan wave : Nat) (s : State) : State := s.onMonitor (Monitor.released plan wave s.now)

/-- The arming of a WAITING watch with baseline `p0` (R149). -/
def Watch.arm (p0 theta gapMax second clock : Nat) (w : Watch) : Watch :=
  match w.state with
  | .waiting =>
    if p0 = 0 then { w with state := .unwatched .noBaseline, armed := some second, baseline := some 0 }
    else
      let length := min (2 * w.delay) gapMax
      { w with state := .armed, armed := some second, baseline := some p0, threshold := some (p0 + p0 * theta / 256),
               windowLength := some length, window := some (clock + length) }
  | .armed | .decided _ | .unwatched _ => w

/-- The last power the Fleet Table holds for a watch's arrival reference, 0 when absent (R149). -/
def Fleet.baseline (f : Fleet) (w : Watch) : Nat :=
  match w.reference with
  | none => 0
  | some t => (f.dynamic t).power.getD 0

/-- The report of the first grant of wave `wave` arms watch `wave + 1` (R149). -/
def State.armWatch (plan wave : Nat) (s : State) : State :=
  s.onMonitor fun m =>
    if m.monitors plan then
      m.onWatch (wave + 1) fun w => w.arm (s.fleet.baseline w) m.theta s.planner.params.gapMax s.now s.clock
    else m

/-- The outcome of an observed delay (R150). -/
def arrivalOutcome (delay tau observed : Nat) : WatchOutcome :=
  if observed + tau < delay then .early else if delay + tau < observed then .late else .onTime

/-- An arrival sample judged against an ARMED watch (R150). DEDUCED (log entry 36). -/
def Watch.judge (power time tau : Nat) (w : Watch) : Watch :=
  if w.state = .armed ∧ w.threshold.getD 0 ≤ power then
    let observed := timebaseDiff time (w.armed.getD 0)
    { w with state := .decided (arrivalOutcome w.delay tau observed), window := none, observed := some observed,
             power := some power }
  else w

/-- An arrival sample (R150): judged against the watch of its downwind row. -/
def Monitor.arrival (row power time : Nat) (m : Monitor) : Monitor :=
  if m.plan.isSome then
    { m with watches := m.watches.map fun w => if w.downwind = row then w.judge power time m.tau else w }
  else m

/-- ARRIVAL_SAMPLE (R150). -/
def execArrivalSample (row power time : Nat) (s : State) : Host.Outcome State Fault Refusal :=
  State.event (State.onMonitor (Monitor.arrival row power time)) s

/-- The window expiry of an ARMED watch: DECIDED with outcome NONE (R151). -/
def Watch.windowExpired (w : Watch) : Watch :=
  match w.state with
  | .armed => { w with state := .decided .none, window := none }
  | .waiting | .decided _ | .unwatched _ => w

/-- The running window timer of a pair index. -/
def Monitor.windowOf (m : Monitor) (k : Nat) : Timer :=
  (m.watches.find? (fun w => w.index == k)).bind (·.window)

/-- WINDOW_EXPIRY (R151). -/
def execWindowExpiry (k : Nat) (s : State) : Host.Outcome State Fault Refusal :=
  State.event (fun s => s.expire (s.monitor.windowOf k) (State.onMonitor (Monitor.onWatch k Watch.windowExpired))) s

/-- The Monitor takes the report of an abort (R152). -/
def State.planAbortedAtMonitor (plan : Nat) (s : State) : State := s.onMonitor (Monitor.voidPlan plan .aborted s.now)

/-! ### The vote -/

/-- LATE less EARLY over the plan's watches (R154). -/
def voteNet (ws : List Watch) : Int :=
  ((ws.countP (fun w => w.state == .decided .late) : Nat) : Int) -
    ((ws.countP (fun w => w.state == .decided .early) : Nat) : Int)

/-- The trim after a vote: one step toward the net, stopping at 32 and at 128 (R154). -/
def votedTrim (net : Int) (trim : Nat) : Nat :=
  if 0 < net then (if trim = 128 then 128 else trim + 1)
  else if net < 0 then (if trim = 32 then 32 else trim - 1)
  else trim

/-- The completion of the monitored plan (R153): watches closed, and with learning on the vote taken (R154) and
TRIM_STEPPED sent when it changes the trim. The vote does not reach a sector that S excludes (R146): the trim stays, and the
header shows the vote TAKEN with one trim before and after. DESIGN CHOICE (log entry 46). -/
def State.planCompletedAtMonitor (plan : Nat) (s : State) : State :=
  match s.monitor.plan with
  | none => s
  | some p =>
    if p.number = plan then
      let ws := s.monitor.watches.map Watch.complete
      if s.monitor.learning then
        let net := voteNet ws
        let before := s.monitor.trim p.pair.sector
        let after := if p.pair.sector < s.wind.params.sectors then votedTrim net before else before
        let s := s.onMonitor fun m =>
          { m with trims := m.trims.set 64 p.pair.sector after }.close p .complete s.now (.taken net before after) ws
        if after = before then s else s.notify (.trimStepped p.pair.sector before after net plan)
      else s.onMonitor (Monitor.close p .complete s.now .off ws)
    else s

/-- The Monitor takes a mode report (R160). -/
def State.modeAtMonitor (m : Mode) : State → State := State.onMonitor fun x => { x with modeIn := m }

/-- ARRIVAL_MONITOR_MODE_CHANGE (R160). -/
def execArrivalMonitorModeChange (m : Mode) (s : State) : Host.Outcome State Fault Refusal :=
  State.reported (.arrivalMonitorModeChange m) (State.modeAtMonitor m) s

/-! ### The reports under way -/

/-- The command is the taking of a report of the Gate to the Arrival Monitor (R97, R111, R120, R126, R148). -/
def gateToMonitor : Instr → Bool
  | .installReport _ | .releaseReport _ _ | .watchArming _ _ | .completionReport _ | .abortReport _ => true
  | _ => false

/-- The command is the taking of a report to the Arrival Monitor: one of the Gate's, or of a change of mode (R160). -/
def toMonitor : Instr → Bool
  | .arrivalMonitorModeChange _ => true
  | c => gateToMonitor c

/-- What a report does at the Arrival Monitor; a command that is none of its reports does nothing there. -/
def State.takeAtMonitor (c : Instr) (s : State) : State :=
  match c with
  | .installReport i => s.planInstalledAtMonitor i
  | .releaseReport plan wave => s.waveReleasedAtMonitor plan wave
  | .watchArming plan wave => s.armWatch plan wave
  | .completionReport plan => s.planCompletedAtMonitor plan
  | .abortReport plan => s.planAbortedAtMonitor plan
  | .arrivalMonitorModeChange m => s.modeAtMonitor m
  | _ => s

/-- A report of the Gate is taken by the Monitor, and before it those of the Gate's to the Monitor that stand ahead of it: they
reach the Monitor in the order the Gate makes them (section 9). -/
def State.takenAtMonitor : Instr → State → State := State.takeInOrder gateToMonitor State.takeAtMonitor

/-- INSTALL_REPORT (R147). -/
def execInstallReport (i : InstallInfo) (s : State) : Host.Outcome State Fault Refusal :=
  State.event (State.takenAtMonitor (.installReport i)) s

/-- RELEASE_REPORT (R148). -/
def execReleaseReport (plan wave : Nat) (s : State) : Host.Outcome State Fault Refusal :=
  State.event (State.takenAtMonitor (.releaseReport plan wave)) s

/-- WATCH_ARMING (R149). -/
def execWatchArming (plan wave : Nat) (s : State) : Host.Outcome State Fault Refusal :=
  State.event (State.takenAtMonitor (.watchArming plan wave)) s

/-- ABORT_REPORT (R152). -/
def execAbortReport (plan : Nat) (s : State) : Host.Outcome State Fault Refusal :=
  State.event (State.takenAtMonitor (.abortReport plan)) s

/-- COMPLETION_REPORT (R153, R154). -/
def execCompletionReport (plan : Nat) (s : State) : Host.Outcome State Fault Refusal :=
  State.event (State.takenAtMonitor (.completionReport plan)) s

/-- The command is the taking of a completion report. -/
def isCompletion : Instr → Bool
  | .completionReport _ => true
  | _ => false

/-- Before a build reads its trim, a plan's completion still under way is taken, and with it the other reports to the Monitor,
in the order they were made: the trim is settled before a build that starts after the plan has ended (R153). DESIGN CHOICE
(log entry 20). -/
def State.settleTrims (s : State) : State :=
  let waiting := s.reports.filter toMonitor
  if waiting.any isCompletion then s.takeEach State.takeAtMonitor waiting else s

/-! ### Requests -/

/-- SET_ARRIVAL (R155). -/
def execSetArrival (h : ReqHead) (a : Option SetArrivalArgs) (s : State) : Host.Outcome State Fault Refusal :=
  s.atOnce (.setArrival h a) h unitArrival fun s =>
    match a with
    | none => refuse .badArg s
    | some x =>
      if arrivalRangesOk x then
        accept (s.onMonitor fun m => { m with theta := x.theta, tau := x.tau, learning := x.learning })
      else refuse .badArg s

/-- WRITE_TRIM (R156). -/
def execWriteTrim (h : ReqHead) (a : Option (Nat × Nat)) (s : State) : Host.Outcome State Fault Refusal :=
  s.atOnce (.writeTrim h a) h unitArrival fun s =>
    match a with
    | none => refuse .badArg s
    | some (sector, v) =>
      if decide (sector < s.wind.params.sectors) && within 32 128 v then
        accept (s.onMonitor fun m => { m with trims := m.trims.set 64 sector v })
      else refuse .badArg s

/-- The result of READ_TRIMS (R156). The 36 trims are plain fields with no count before them. DESIGN CHOICE (log entry 37). -/
def State.trimsResult (s : State) : List Byte :=
  u16 s.wind.params.sectors ++ ((List.range Config.sectorSlots).map (fun i => u16 (s.monitor.trim i))).flatten ++
    encFlag s.monitor.learning

/-- READ_TRIMS (R156). -/
def execReadTrims (h : ReqHead) (a : Option Unit) (s : State) : Host.Outcome State Fault Refusal :=
  s.atOnce (.readTrims h a) h unitArrival (readOnly a State.trimsResult)

/-- The state of a watch, in the order of Table 9-2. -/
def encWatchState : WatchState → List Byte
  | .waiting => u8 0 | .armed => u8 1 | .decided _ => u8 2 | .unwatched _ => u8 3

/-- The outcome of a watch, in the order of Table 9-2. -/
def encOutcome : WatchOutcome → List Byte
  | .early => u8 0 | .late => u8 1 | .onTime => u8 2 | .none => u8 3 | .void => u8 4

/-- The unwatched reason, in the order of Table 9-2. -/
def encReason : UnwatchedReason → List Byte
  | .noReference => u8 0 | .noBaseline => u8 1 | .notArmed => u8 2

/-- The outcome of a decided watch. -/
def WatchState.outcome? : WatchState → Option WatchOutcome
  | .decided o => some o
  | .waiting | .armed | .unwatched _ => none

/-- The reason of an unwatched watch. -/
def WatchState.reason? : WatchState → Option UnwatchedReason
  | .unwatched r => some r
  | .waiting | .armed | .decided _ => none

/-- A watch record with every field of Table 9-2. -/
def encWatch (w : Watch) : List Byte :=
  u16 w.index ++ u16 w.upwind ++ u16 w.downwind ++ u16 w.delay ++ encOption u16 w.reference ++
    encOption u32 w.release ++ encWatchState w.state ++ encOption u32 w.armed ++ encOption u16 w.baseline ++
    encOption u32 w.threshold ++ encOption u16 w.windowLength ++ encOption encOutcome w.state.outcome? ++
    encOption encReason w.state.reason? ++ encOption u16 w.observed ++ encOption u16 w.power

/-- The CURRENT result of READ_ARRIVALS (R157). Each watch record ends with the seconds left in its window as an optional field,
absent for a watch that is not ARMED, and the presence byte 1 stands before the whole. DESIGN CHOICE (log entry 37). -/
def State.currentWatches (s : State) : List Byte :=
  match s.monitor.plan with
  | none => u8 0
  | some p =>
    u8 1 ++ u16 p.number ++ encPair p.pair ++ u16 p.trim ++
      encList (fun w : Watch => encWatch w ++ encOption u16 (s.remaining w.window)) s.monitor.watches

/-- The vote in the arrival table's header (R157). The three values of a TAKEN vote follow its code with no presence byte, and
no other vote has them. DESIGN CHOICE (log entry 37). -/
def encVote : Vote → List Byte
  | .taken net before after => u8 0 ++ i16 net ++ u16 before ++ u16 after
  | .off => u8 1
  | .notTaken => u8 2

/-- The way a monitored plan ended (R152, R153). -/
def encPlanEnd : PlanEnd → List Byte
  | .complete => u8 0 | .aborted => u8 1 | .superseded => u8 2

/-- The LAST result of READ_ARRIVALS (R157). The presence byte 1 stands before the whole. DESIGN CHOICE (log entry 37). -/
def State.lastArrivals (s : State) : List Byte :=
  match s.monitor.arrivals with
  | none => u8 0
  | some t =>
    u8 1 ++ u16 t.plan.number ++ encPair t.plan.pair ++ u16 t.plan.trim ++ encPlanEnd t.ended ++ u32 t.second ++
      encVote t.vote ++ encList encWatch t.entries

/-- READ_ARRIVALS (R157). -/
def execReadArrivals (h : ReqHead) (a : Option Selector) (s : State) : Host.Outcome State Fault Refusal :=
  s.atOnce (.readArrivals h a) h unitArrival fun s =>
    match a with
    | none => refuse .badArg s
    | some .current => (s, .ok, s.currentWatches)
    | some .last => (s, .ok, s.lastArrivals)

end Sys2Proof.Machine
end

