-- ==== Sys2Proof/Machine/Construction.lean ====
section
/-! DEFINITION. The Planner (section 6): the latch and the start of a build (R86-R88), targets and schedule (R89-R91),
segment counts (R98), previews (R103-R106), mode, hold and commit reports (R99-R101), and SET_PLAN_PARAMS (R108). The
install, which is an event at the Release Gate, is in Install.lean. -/

namespace Sys2Proof.Machine

/-! ### Targets, delays and schedule -/

/-- The target of a member: its entry of the bank clamped to -L..L (R89). -/
def planTarget (k : Bank) (p : Pair) (limit t : Nat) : Int :=
  clamp (-(limit : Int)) limit (k.offset p.sector p.band t)

/-- The raw advection delay: spacing × 10 × trim over the advection speed × 64, half up (R90). -/
def rawDelay (spacing : Nat) (i : BuildInputs) : Nat :=
  halfUp (spacing * 10 * i.trim) (max i.speed i.floor * 64)

/-- The delay of a wave: the raw delay clamped to gap_min..gap_max (R91). -/
def waveDelay (spacing : Nat) (i : BuildInputs) : Nat := clampNat i.gapMin i.gapMax (rawDelay spacing i)

/-- A wave of a schedule: row, release offset, predicted delay. -/
structure Slot where
  row : Nat
  offset : Nat
  delay : Option Nat
deriving DecidableEq, Repr

/-- The waves after the first: each release offset is the one before it plus the delay (R91). DESIGN CHOICE (log entry 30).
-/
def laterSlots (i : BuildInputs) : Nat → List Nat → List Nat → List Slot
  | before, r :: rows, x :: spacings =>
    let d := waveDelay x i
    ⟨r, before + d, some d⟩ :: laterSlots i (before + d) rows spacings
  | _, _, _ => []

/-- The release schedule of a sector record: wave 0 at 0 without a delay, then the later waves (R91). -/
def schedule (i : BuildInputs) (x : SectorRecord) : List Slot :=
  match x.order with
  | [] => []
  | r :: rows => ⟨r, 0, none⟩ :: laterSlots i 0 rows x.spacings

/-- The sector record a plan for a pair is made from: the active bank's for the pair's sector (R88, R91), and none, so that the
plan has no wave, for a sector that S excludes, whose records no plan uses (R66). DESIGN CHOICE (log entry 30). -/
def State.planRecord (p : Pair) (s : State) : SectorRecord :=
  if p.sector < s.wind.params.sectors then s.tables.activeBank.sector p.sector else .zeroed

/-- The segment count of a distance under a maximum step, 1 when there is no distance (R95, R98). -/
def segmentCount (step : Nat) (distance : Int) : Nat :=
  if distance = 0 then 1 else ceilDiv distance.natAbs step

/-! ### The latch and the start of a build -/

/-- The values read at the start of a build for a pair (R88, steps 2 to 4). -/
def State.buildInputs (p : Pair) (s : State) : BuildInputs :=
  let q := s.planner.params
  ⟨s.wind.speed, s.monitor.trim p.sector, q.gapMin, q.gapMax, q.floor, q.biasLimit⟩

/-- The Planner's report that a build has started, taken within the event that starts it (R77). -/
def State.reportBuilding : State → State := State.reportCondition .plannerBuilding

/-- The start of a retarget build for the latched pair (R88), the trims being settled (R153). -/
def State.startBuild (p : Pair) (s : State) : State :=
  let s := s.settleTrims
  (s.onPlanner fun q => { q with latch := none, build := some ⟨.retarget, p, s.buildInputs p⟩ }).reportBuilding

/-- The five conditions of R87. -/
def Planner.mayBuild (q : Planner) : Bool :=
  q.latch.isSome && q.build.isNone && steering q.modeIn && !q.holdIn && !q.commitIn

/-- Start a retarget build if the five conditions hold (R87). -/
def State.tryBuild (s : State) : State :=
  match s.planner.latch with
  | none => s
  | some p => if s.planner.mayBuild then s.startBuild p else s

/-- The end of a build: the build becomes NONE, and the Table Store is told (R77, R93). -/
def State.endBuild (s : State) : State :=
  (s.onPlanner fun q => { q with build := none }).report (.swapConditionReport (.plannerBuilding false))

/-- RETARGET_TRIGGER: the pair is latched, replacing any pair latched (R86). -/
def execRetargetTrigger (p : Pair) (s : State) : Host.Outcome State Fault Refusal :=
  State.reported (.retargetTrigger p) (fun s => (s.onPlanner fun q => { q with latch := some p }).tryBuild) s

/-- HOLD_REPORT (R99). -/
def execHoldReport (inEffect : Bool) (s : State) : Host.Outcome State Fault Refusal :=
  State.reported (.holdReport inEffect) (fun s => (s.onPlanner fun q => { q with holdIn := inEffect }).tryBuild) s

/-- COMMIT_STATE_REPORT (R100). -/
def execCommitStateReport (isPending : Bool) (s : State) : Host.Outcome State Fault Refusal :=
  State.reported (.commitStateReport isPending)
    (fun s => (s.onPlanner fun q => { q with commitIn := isPending }).tryBuild) s

/-- The Planner takes a mode report (R101, R105, R87): OFF abandons a retarget build, UNWIND a build of either kind, and
both empty the latch; LIVE and DRY may start a build. -/
def State.plannerMode (m : Mode) (s : State) : State :=
  let s := s.onPlanner fun q => { q with modeIn := m }
  if steering m then s.tryBuild
  else
    let s := s.onPlanner fun q => { q with latch := none }
    match s.planner.build with
    | none => s
    | some b => match b.kind with
      | .retarget => s.endBuild
      | .preview => if m = .unwind then (s.lateAnswer unitPlanner .badMode []).endBuild else s

/-- The mode that a command reports to the Planner. -/
def plannerReportOf : Instr → Option Mode
  | .plannerModeChange m => some m
  | _ => none

/-- The command is the taking of a report of a change of mode to the Planner (R160). -/
def modeToPlanner (c : Instr) : Bool := (plannerReportOf c).isSome

/-- What a report of a change of mode does at the Planner; a command that is none to it does nothing there. -/
def State.takeAtPlanner (c : Instr) (s : State) : State :=
  match plannerReportOf c with
  | some m => s.plannerMode m
  | none => s

/-- PLANNER_MODE_CHANGE (R86, R87, R101, R105), and before it the reports of earlier changes of mode that the Planner has not
taken: it takes them in the order they were made (R160). DEDUCED (log entry 43). -/
def execPlannerModeChange (m : Mode) (s : State) : Host.Outcome State Fault Refusal :=
  State.event (State.takeInOrder modeToPlanner State.takeAtPlanner (.plannerModeChange m)) s

/-! ### Preview -/

/-- The disposition of a member at the completion of a preview (R104, R95). -/
def State.dispositionOf (s : State) (t : Nat) (target : Int) : Disposition :=
  let d := target - s.gate.component t
  if (s.fleet.dynamic t).availability = .fault then .unavailable
  else if d.natAbs ≤ s.planner.params.deadband then .noMove
  else .move (s.gate.component t) (segmentCount s.planner.params.maxStep d)

/-- One wave of a preview plan (R104). -/
def State.previewWave (s : State) (b : Build) (w : Slot) : PreviewWave :=
  ⟨w.row, w.offset, w.delay, (s.fleet.row w.row).members.map fun t =>
    let target := planTarget s.tables.activeBank b.pair b.inputs.biasLimit t
    ⟨t, target, s.dispositionOf t target⟩⟩

/-- The preview plan of a build as it completes (R104). -/
def State.previewPlan (s : State) (b : Build) : PreviewPlan :=
  ⟨b.pair, b.inputs.speed, b.inputs.trim,
    (schedule b.inputs (s.planRecord b.pair)).map (s.previewWave b), s.now⟩

/-- The members of a preview plan. -/
def PreviewPlan.members (p : PreviewPlan) : List PreviewMember := (p.waves.map (·.members)).flatten

/-- The segments of a MOVE member, 0 for the others. -/
def PreviewMember.segments (m : PreviewMember) : Nat :=
  match m.disposition with
  | .move _ n => n
  | .noMove | .unavailable => 0

/-- A member is a MOVE. -/
def PreviewMember.isMove (m : PreviewMember) : Bool :=
  match m.disposition with
  | .move _ _ => true
  | .noMove | .unavailable => false

/-- The summary that answers PREVIEW (R104). -/
def PreviewPlan.summary (p : PreviewPlan) : List Byte :=
  encPair p.pair ++ u16 p.speed ++ u16 p.trim ++ u16 p.waves.length ++ encList u16 (p.waves.map (·.offset)) ++
    u16 (p.members.countP (·.isMove)) ++ u16 (p.members.countP (fun m => m.disposition == .noMove)) ++
    u16 (p.members.countP (fun m => m.disposition == .unavailable)) ++ u16 ((p.members.map (·.segments)).sum)

/-- The completion of a preview build (R104); nothing happens without one in progress. -/
def State.previewCompleted (s : State) : State :=
  match s.planner.build with
  | none => s
  | some b => match b.kind with
    | .retarget => s
    | .preview =>
      let p := s.previewPlan b
      (((s.onPlanner fun q => { q with preview := some p }).lateAnswer unitPlanner .ok p.summary).endBuild).tryBuild

/-- PREVIEW_COMPLETION (R104). -/
def execPreviewCompletion (s : State) : Host.Outcome State Fault Refusal :=
  State.event State.previewCompleted s

/-- The pair a PREVIEW names is in range (R103, check 3). -/
def pairOk (sectors : Nat) (p : Pair) : Bool := decide (p.sector < sectors) && decide (p.band < 8)

/-- The checks of PREVIEW in order (R103): the status of a refusal, or the pair to build. -/
def State.previewRefused (s : State) (a : Option Pair) : Option Status :=
  if s.planner.build.isSome then some .busy
  else if s.modes.mode = .unwind then some .badMode
  else match a with
    | none => some .badArg
    | some p =>
      if !pairOk s.wind.params.sectors p then some .badArg
      else if s.planner.commitIn then some .pending
      else if !s.tables.valid then some .noTables
      else none

/-- The start of a preview build (R103), the trims being settled (R153), and the marks of a late request (R177). -/
def State.startPreview (h : ReqHead) (p : Pair) (s : State) : State :=
  let s := s.settleTrims
  ((s.onPlanner fun q => { q with preview := none, build := some ⟨.preview, p, s.buildInputs p⟩ }).reportBuilding).onDispatcher
    fun d => { d with plannerLate := some h }

/-- PREVIEW (R103): refused at once, or a preview build is started and the request answered late (R177). -/
def execPreview (h : ReqHead) (a : Option Pair) (s : State) : Host.Outcome State Fault Refusal :=
  s.handed (.preview h a) h unitPlanner fun s =>
    match s.previewRefused a, a with
    | some st, _ => s.answer h unitPlanner st []
    | none, some p => s.startPreview h p
    | none, none => s

/-- A disposition in READ_PREVIEW: its code, and for a MOVE the from-value and n (R106), with no presence byte before them and
nothing in their place for the others. DESIGN CHOICE (log entry 37). -/
def encDisposition : Disposition → List Byte
  | .move source n => u8 0 ++ i16 source ++ u16 n
  | .noMove => u8 1
  | .unavailable => u8 2

/-- A wave of the preview plan as READ_PREVIEW gives it (R106). -/
def previewWaveResult (p : PreviewPlan) (w : PreviewWave) : List Byte :=
  encPair p.pair ++ u16 p.waves.length ++ u32 p.second ++ u16 w.row ++ u16 w.offset ++ encOption u16 w.delay ++
    encList (fun m : PreviewMember => u16 m.turbine ++ i16 m.target ++ encDisposition m.disposition) w.members

/-- READ_PREVIEW (R106). The preview plan is an optional value, present before the wave that is read. DESIGN CHOICE (log entries 7
and 37). -/
def execReadPreview (h : ReqHead) (a : Option Nat) (s : State) : Host.Outcome State Fault Refusal :=
  s.atOnce (.readPreview h a) h unitPlanner fun s =>
    if s.planner.build.isSome then refuse .busy s
    else match a with
      | none => refuse .badArg s
      | some i =>
        if 15 < i then refuse .badArg s
        else match s.planner.preview with
          | none => (s, .ok, u8 0)
          | some p => match p.waves[i]? with
            | none => refuse .badArg s
            | some w => (s, .ok, u8 1 ++ previewWaveResult p w)

/-- SET_PLAN_PARAMS (R108). -/
def execSetPlanParams (h : ReqHead) (a : Option PlanParams) (s : State) : Host.Outcome State Fault Refusal :=
  s.atOnce (.setPlanParams h a) h unitPlanner fun s =>
    if s.planner.build.isSome then refuse .busy s
    else match a with
      | none => refuse .badArg s
      | some p =>
        if !planRangesOk p then refuse .badArg s
        else if s.modes.mode ≠ .off ∧ p.biasLimit ≠ s.planner.params.biasLimit then refuse .badMode s
        else accept (s.onPlanner fun q => { q with params := p })

end Sys2Proof.Machine
end

