-- ==== Sys2Proof/Machine/Geometry.lean ====
section
/-! DEFINITION. The geometry requests (R14-R17, R63): their common checks, the reports of the mode taken before them, and the
meanings of SET_TURBINE, CLEAR_TURBINE, SET_ROW and SET_SECTORS over their conditions and effects in Fleet.lean and
Estimator.lean. -/

namespace Sys2Proof.Machine

/-- The first two checks of a geometry request (R14, R63): the mode is OFF, and neither a build nor a save is in progress. A
commit PENDING in OFF is taken as one that waits for such work: the geometry it was validated against stays until its swap
(R79). DEDUCED (log entries 14 and 42). -/
def State.geometryRefused (s : State) : Option Status :=
  if s.modes.mode ≠ .off then some .badMode
  else if s.planner.build.isSome || s.image.save.isSome || s.tables.commitPending then some .busy
  else none

/-- The command is the taking of a report of a change of mode to the Estimator or the Planner (R160). -/
def modeToEither (c : Instr) : Bool := modeToEstimator c || modeToPlanner c

/-- The Estimator and the Planner take the reports of changes of mode still under way to them, in the order they were made: each
has what the mode OFF, which a geometry request has found, makes of it before the geometry changes (R14, R58, R63, R74, R86, R88,
R101). DEDUCED (log entry 52). -/
def State.settleModes (s : State) : State :=
  s.takeEach (fun c s => (s.takeAtEstimator c).takeAtPlanner c) (s.reports.filter modeToEither)

/-- A geometry request taken: the Estimator and the Planner know of the mode, then the effect, and the active bank marked
INVALID (R14, R74). -/
def State.takeGeometry (f : State → State) (s : State) : Answer :=
  accept ((f s.settleModes).onTables fun t => { t with valid := false })

/-- A geometry request: the checks of R14 in order, `ok` being its own conditions on arguments that decode. DEDUCED (log
entry 13). -/
def State.geometry {α : Type} (a : Option α) (ok : α → Bool) (f : α → State → State) (s : State) : Answer :=
  match s.geometryRefused, a with
  | some st, _ => refuse st s
  | none, none => refuse .badArg s
  | none, some x => if ok x then s.takeGeometry (f x) else refuse .badArg s

/-- SET_TURBINE (R15). -/
def execSetTurbine (h : ReqHead) (a : Option (Nat × Nat)) (s : State) : Host.Outcome State Fault Refusal :=
  s.atOnce (.setTurbine h a) h unitFleet fun s =>
    s.geometry a (fun x => s.setTurbineOk x.1 x.2) (fun x => State.onFleet (Fleet.setTurbine x.1 x.2))

/-- CLEAR_TURBINE (R16). -/
def execClearTurbine (h : ReqHead) (a : Option Nat) (s : State) : Host.Outcome State Fault Refusal :=
  s.atOnce (.clearTurbine h a) h unitFleet fun s =>
    s.geometry a s.knownTurbine (fun t => State.onFleet (Fleet.clearTurbine t))

/-- SET_ROW: the member list and arrival reference are replaced (R17). -/
def execSetRow (h : ReqHead) (a : Option SetRowArgs) (s : State) : Host.Outcome State Fault Refusal :=
  s.atOnce (.setRow h a) h unitFleet fun s =>
    s.geometry a s.setRowOk (fun x => State.onFleet (Fleet.setRow x.row ⟨x.members, x.arrivalRef⟩))

/-- SET_SECTORS (R63). -/
def execSetSectors (h : ReqHead) (a : Option Nat) (s : State) : Host.Outcome State Fault Refusal :=
  s.atOnce (.setSectors h a) h unitWind fun s =>
    s.geometry a sectorCountOk (fun n => State.onWind (Wind.setSectors n))

end Sys2Proof.Machine
end

