-- ==== Sys2Proof/Machine/BiasUpkeep.lean ====
section
/-! DEFINITION. Bias Upkeep (section 8): controller bias and rewriting (R133, R135), the injection of a grant (R137), the
refresh timer and the wait list (R139-R141), and its mode report (R143). The commanded bias (R134) is in Flags.lean, the
submission of a telegram (R138) in Egress.lean. -/

namespace Sys2Proof.Machine

/-- Upkeep sends and rewrites only in LIVE and UNWIND (R135, R137, R141). -/
def sending : Mode → Bool
  | .live | .unwind => true
  | .off | .dry => false

/-- Set a turbine's refresh timer. -/
def Upkeep.setRefresh (t : Nat) (timer : Timer) (u : Upkeep) : Upkeep :=
  { u with refresh := u.refresh.set none t timer }

/-- The refresh timer is started at the refresh interval, and a waiting refresh leaves the wait list (R135, R137, R139). -/
def State.restartRefresh (t : Nat) (s : State) : State :=
  s.onUpkeep fun u =>
    { u.setRefresh t (s.timer s.planner.params.refresh) with waitList := u.waitList.erase t }

/-- A controller telegram sets the controller bias (R133); `value` is its bias field as received. -/
def Upkeep.record (t : Nat) (value : Int) (u : Upkeep) : Upkeep :=
  { u with controllerBias := u.controllerBias.set 0 t value }

/-- Bias Upkeep is handed a BIAS telegram for turbine `t`: origin CONTROLLER is recorded (R133); in LIVE and UNWIND the
refresh timer is restarted (R135). The bias the telegram goes on with is `returnedBias` of the state after. -/
def State.handBias (t : Nat) (value : Int) (fromController : Bool) (s : State) : State :=
  let s := if fromController then s.onUpkeep (Upkeep.record t value) else s
  if sending s.upkeep.modeIn then s.restartRefresh t else s

/-- The commanded bias replaces the bias field in LIVE and UNWIND (R135). -/
def State.returnedBias (s : State) (t : Nat) : Option Int :=
  if sending s.upkeep.modeIn then some (s.commandedBias t) else none

/-- The injection of a grant (R137): nothing while Upkeep's mode input is OFF or DRY. -/
def State.injectGrant (cls : MoveClass) (t : Nat) (s : State) : State :=
  if sending s.upkeep.modeIn then (s.submitBias cls t).restartRefresh t else s

/-- The injection queue is full (R30). -/
def LinePath.injectionFull (l : LinePath) : Bool := decide (Config.injectionCapacity ≤ l.injections.length)

/-- A refresh submitted: a NORMAL telegram, and the timer restarted (R140, R141). -/
def State.submitRefresh (t : Nat) (s : State) : State := (s.submitBias .normal t).restartRefresh t

/-- The expiry of a refresh timer (R140): a refresh, or WAITING at the tail of the wait list. -/
def State.refreshExpired (t : Nat) (s : State) : State :=
  if s.line.injectionFull then
    s.onUpkeep fun u => { u.setRefresh t none with waitList := u.waitList ++ [t] }
  else s.submitRefresh t

/-- REFRESH_EXPIRY (R140). -/
def execRefreshExpiry (t : Nat) (s : State) : Host.Outcome State Fault Refusal :=
  State.event (fun s => s.expire (s.upkeep.refresh.get none t) (State.refreshExpired t)) s

/-- Serve the wait list from its head while the injection queue has room (R141). -/
def State.serveWaiting : List Nat → State → State
  | [], s => s
  | t :: rest, s => if s.line.injectionFull then s else (s.submitRefresh t).serveWaiting rest

/-- A room event at Upkeep (R141). -/
def State.roomTaken (s : State) : State :=
  if sending s.upkeep.modeIn then s.serveWaiting s.upkeep.waitList else s

/-- ROOM_EVENT (R141). -/
def execRoomEvent (s : State) : Host.Outcome State Fault Refusal :=
  State.reported .roomEvent State.roomTaken s

/-- Upkeep takes a mode report: entry to OFF stops every refresh timer and empties the wait list (R143). -/
def Upkeep.enter (m : Mode) (u : Upkeep) : Upkeep :=
  match m with
  | .off => { u with modeIn := .off, refresh := ⟨[]⟩, waitList := [] }
  | .live | .dry | .unwind => { u with modeIn := m }

/-- UPKEEP_MODE_CHANGE (R143). -/
def execUpkeepModeChange (m : Mode) (s : State) : Host.Outcome State Fault Refusal :=
  State.reported (.upkeepModeChange m) (State.onUpkeep (Upkeep.enter m)) s

end Sys2Proof.Machine
end

