-- ==== Sys2Proof/Machine/ReleaseGate.lean ====
section
/-! DEFINITION. The Release Gate (section 7): records and queues (R113-R116), release and completion (R110, R111), scan,
skip and grant (R117-R120), settle and failure (R122-R126), hold (R127, R128), the Gate's mode entries (R129, R130), and
the requests of the GATE unit (R112, R115, R121, R127, R128). -/

namespace Sys2Proof.Machine

/-! ### Records -/

/-- Change one record of the Move Ring. -/
def Gate.onRecord (seq : Nat) (f : MoveRecord → MoveRecord) (g : Gate) : Gate :=
  { g with ring := g.ring.map fun r => if r.sequence = seq then f r else r }

/-- A record finishes: state, cause and finish time are set, the current segment target and grant time become absent
(R113). -/
def MoveRecord.finish (st : RecordState) (cause : Option FinishCause) (second : Nat) (r : MoveRecord) : MoveRecord :=
  { r with state := st, cause := cause, finishTime := some second, segmentTarget := none, grantTime := none }

/-- Finish every record that `p` selects and that is unfinished, and take those that were READY out of the queues. -/
def Gate.finishAll (p : MoveRecord → Bool) (st : RecordState) (cause : Option FinishCause) (second : Nat) (g : Gate) :
    Gate :=
  let chosen (r : MoveRecord) : Bool := p r && !r.state.finished
  let leaves (seq : Nat) : Bool := g.ring.any fun r => r.sequence == seq && chosen r
  { g with
    ring := g.ring.map fun r => if chosen r then r.finish st cause second else r
    normalQueue := g.normalQueue.filter fun q => !leaves q
    urgentQueue := g.urgentQueue.filter fun q => !leaves q }

/-- A record waits in PENDING or READY. -/
def MoveRecord.waiting (r : MoveRecord) : Bool := r.state == .pending || r.state == .ready

/-- The next record sequence number: 4294967295 wraps to 1 (R113). -/
def nextSequence (n : Nat) : Nat := if n = 4294967295 then 1 else n + 1

/-- Add a record after the newest; at 1024 the oldest leaves the ring (R114). -/
def pushRecord (r : MoveRecord) (ring : List MoveRecord) : List MoveRecord :=
  if ring.length < Config.ringCapacity then ring ++ [r] else ring.drop 1 ++ [r]

/-- Create a record: it takes the counter increased by one as its number (R113). -/
def Gate.create (r : MoveRecord) (g : Gate) : Gate :=
  let n := nextSequence g.recordCounter
  { g with recordCounter := n, ring := pushRecord { r with sequence := n } g.ring }

/-- The queue of a class. -/
def Gate.queue (g : Gate) : MoveClass → List Nat
  | .normal => g.normalQueue
  | .urgent => g.urgentQueue

/-- Replace the queue of a class. -/
def Gate.setQueue (g : Gate) : MoveClass → List Nat → Gate
  | .normal, q => { g with normalQueue := q }
  | .urgent, q => { g with urgentQueue := q }

/-- A record becomes READY and joins the tail of its class's queue, a cause for a scan (R116, R117). -/
def Gate.makeReady (seq : Nat) (cls : MoveClass) (g : Gate) : Gate :=
  let g := g.onRecord seq fun r => { r with state := .ready, grantTime := none }
  { g.setQueue cls (g.queue cls ++ [seq]) with scanDue := true }

/-- A record leaves its queue. -/
def Gate.leaveQueue (seq : Nat) (cls : MoveClass) (g : Gate) : Gate := g.setQueue cls ((g.queue cls).erase seq)

/-! ### Plans -/

/-- Set the state an installed plan shows (R111). -/
def Gate.showPlan (g : Gate) : Gate :=
  { g with installed := g.installed.map fun p => { p with state := p.shown g.hold } }

/-- Completion of the installed plan (R111): it ceases to be installed, the reports and the notice are made. -/
def State.completePlan (p : Plan) (s : State) : State :=
  let s := s.onGate fun g => { g with installed := none, last := some { p with state := .complete } }
  ((s.report (.swapConditionReport (.planInstalled false))).report (.completionReport p.number)).notify
    (.complete p.number p.pair p.planTime p.failures (s.gate.countOf p.number .settled)
      (s.gate.countOf p.number .failed) (s.gate.countOf p.number .skipped))

/-- The completion test (R111): next wave equals W and every record of the plan is finished. -/
def State.testCompletion (s : State) : State :=
  match s.gate.installed with
  | none => s
  | some p =>
    if p.waves.length ≤ p.nextWave ∧ s.gate.planFinished p.number = true then s.completePlan p else s

/-- The plan ceases to be installed as ABORTED, the reports and the notice are made (R126, steps 1, 4 and 5). -/
def State.endAborted (p : Plan) (cause : AbortCause) (s : State) : State :=
  (((s.onGate fun g => { g with installed := none, last := some { p with state := .aborted } }).report
    (.swapConditionReport (.planInstalled false))).report (.abortReport p.number)).notify
      (.aborted p.number cause p.failures)

/-- The waiting records of a plan finish CANCELLED (R126, step 2). -/
def State.cancelWaiting (p : Plan) (cause : FinishCause) (s : State) : State :=
  s.onGate fun g => g.finishAll (fun r => r.ofPlan p.number && r.waiting) .cancelled (some cause) s.now

/-- Every OWN segment takes another fate (R94, R126). -/
def Gate.disown (fate : Fate) (g : Gate) : Gate :=
  { g with flights := g.flights.map fun f => if f.fate = .own then { f with fate := fate } else f }

/-- The abort of the installed plan with its records cancelled ABORT and its segments taking fate ABORTED (R126). -/
def State.abortPlan (p : Plan) (cause : AbortCause) (s : State) : State :=
  ((s.cancelWaiting p .abort).onGate (Gate.disown .aborted)).endAborted p cause

/-! ### Finishes -/

/-- What follows the finish of a record: the completion test for a NORMAL record of the installed plan (R111), the finish
report for an URGENT one (R166), and the end report when no URGENT record is unfinished (R129). -/
def State.recordFinished (r : MoveRecord) (o : UrgentOutcome) (s : State) : State :=
  match r.cls with
  | .normal => if s.gate.installed.map (·.number) = some r.plan then s.testCompletion else s
  | .urgent =>
    let s := s.report (.urgentFinishReport o)
    if s.gate.urgentUnfinished then s else s.report .unwindEnd

/-! ### Wave release -/

/-- A wave's PENDING records become READY, in the order of its list (R110, step 1). -/
def Gate.releaseRecords : List Nat → Gate → Gate
  | [], g => g
  | q :: qs, g =>
    let g := match g.record q with
      | some r => if r.state = .pending then g.makeReady q .normal else g
      | none => g
    Gate.releaseRecords qs g

/-- The release of the next wave (R110): its records, next wave, the shown state, the report, and at the last wave the
completion test (R111). -/
def State.releaseWave (p : Plan) (w : Wave) (s : State) : State :=
  let k := p.nextWave
  let s := s.onGate fun g =>
    ({ g.releaseRecords w.sequences with installed := some { p with nextWave := k + 1 } }).showPlan
  let s := s.report (.releaseReport p.number k)
  if k + 1 = p.waves.length then s.testCompletion else s

/-- The seconds until plan time reaches the next wave's release offset, and that wave; none while no wave is to come, and
none while hold keeps plan time short of it (R110). -/
def Gate.nextRelease (g : Gate) : Option (Nat × Wave) :=
  match g.installed with
  | none => none
  | some p => match p.waves[p.nextWave]? with
    | none => none
    | some w =>
      if w.offset ≤ p.planTime then some (0, w) else if g.hold then none else some (w.offset - p.planTime, w)

/-- The release event: plan time reaches the offset, and the wave is released (R110). DESIGN CHOICE (log entry 1). -/
def State.nextWaveReleased (s : State) : State :=
  match s.gate.nextRelease with
  | none => s
  | some (n, w) =>
    let s := s.elapse n
    match s.gate.installed with
    | none => s
    | some p => s.releaseWave p w

/-- WAVE_RELEASE (R110). -/
def execWaveRelease (s : State) : Host.Outcome State Fault Refusal :=
  State.event State.nextWaveReleased s

/-! ### The arbiter -/

/-- The judgement of a turbine (R118): the cause of a skip, or none. -/
def skipCause (d : TurbineDynamic) : Option FinishCause :=
  match d.availability with
  | .fault => some .unavailable
  | .unseen | .stale => some .stale
  | .online => match d.yaw with
    | some .locked => some .locked
    | some .fault => some .yawFault
    | some .idle | some .running | none => none

/-- A record finishes SKIPPED at a scan (R118). -/
def State.skipRecord (r : MoveRecord) (cause : FinishCause) (s : State) : State :=
  let s := s.onGate fun g =>
    (g.leaveQueue r.sequence r.cls).onRecord r.sequence (MoveRecord.finish .skipped (some cause) s.now)
  (s.notify (.moveSkipped r.sequence r.turbine cause)).recordFinished r .skipped

/-- The budget in force for a class (R119): U, or B of the installed plan's band. -/
def Gate.budget (g : Gate) : MoveClass → Nat
  | .urgent => g.urgentBudget
  | .normal => g.normalBudget.getD 0

/-- The nominal duration of a segment (R120, step 6). -/
def nominalDuration (segment : Int) (rate : Nat) : Nat := ceilDiv segment.natAbs rate

/-- A grant's own part (R120, steps 1 to 6): segment, n, component, flight, record and timer. -/
def State.beginSegment (r : MoveRecord) (s : State) : State :=
  let p := s.planner.params
  let rest := r.target - s.gate.component r.turbine
  let segment := signedStep p.maxStep rest
  let target := s.gate.component r.turbine + segment
  let dry := s.gate.modeIn == .dry
  let length := nominalDuration segment p.yawRate + (if dry then 0 else p.settleMargin)
  let f : Flight :=
    { record := r.sequence, turbine := r.turbine, segment := segment, target := target, expires := s.clock + length,
      simulated := dry, fate := match r.cls with | .normal => .own | .urgent => .urgent }
  s.onGate fun g =>
    let g := (g.leaveQueue r.sequence r.cls).onRecord r.sequence fun x =>
      { x with state := .inFlight, segments := r.done + ceilDiv rest.natAbs p.maxStep, segmentTarget := some target,
               grantTime := some s.now }
    { g with components := g.components.set 0 r.turbine target, flights := g.flights ++ [f] }

/-- The first grant of a wave is reported to the Arrival Monitor (R120, step 8). -/
def State.reportFirstGrant (r : MoveRecord) (s : State) : State :=
  match r.wave, s.gate.installed with
  | some k, some p =>
    match p.waves[k]? with
    | some w =>
      if w.firstGranted then s
      else
        (s.onGate fun g =>
          { g with installed := some { p with waves := setAt p.waves k { w with firstGranted := true } } }).report
            (.watchArming p.number k)
    | none => s
  | _, _ => s

/-- A grant (R120). -/
def State.grant (r : MoveRecord) (s : State) : State :=
  let s := s.beginSegment r
  let s := if sending s.gate.modeIn then s.injectGrant r.cls r.turbine else s
  match r.cls with
  | .normal => s.reportFirstGrant r
  | .urgent => s

/-- What a scan does with a record it reaches. -/
inductive Verdict where
  | skip (cause : FinishCause)
  | passOver
  | await
  | stop
  | grant
deriving DecidableEq, Repr

/-- The judgement of a record (R118, R119), in the order of the rules. In OFF no grant is made (R130), and a record that
could be granted awaits the Gate's report of LIVE or DRY. DEDUCED (log entry 31). -/
def State.judge (r : MoveRecord) (s : State) : Verdict :=
  match skipCause (s.fleet.dynamic r.turbine) with
  | some c => .skip c
  | none =>
    if s.gate.busy r.turbine then .passOver
    else if s.gate.budget r.cls ≤ s.gate.flights.length then .passOver
    else if r.cls = .normal ∧ s.gate.hold = true then .passOver
    else if s.gate.modeIn = .off then .await
    else if sending s.gate.modeIn ∧ s.line.injectionFull = true then .stop
    else .grant

/-- Walk a queue from head to tail (R117): the state after, and whether the scan goes on. -/
def State.walk : List Nat → State → State × Bool
  | [], s => (s, true)
  | q :: qs, s =>
    match s.gate.record q with
    | none => State.walk qs s
    | some r => match s.judge r with
      | .skip c => State.walk qs (s.skipRecord r c)
      | .passOver => State.walk qs s
      | .await => State.walk qs (s.onGate fun g => { g with scanDue := true })
      | .stop => (s, false)
      | .grant => State.walk qs (s.grant r)

/-- A scan (R117): the urgent ready queue, then the normal one. -/
def State.scan (s : State) : State :=
  let s := s.onGate fun g => { g with scanDue := false }
  match s.walk s.gate.urgentQueue with
  | (s, true) => (s.walk s.gate.normalQueue).1
  | (s, false) => s

/-- ARBITER_SCAN (R117): it is taken when a cause has arisen since the last scan. -/
def execArbiterScan (s : State) : Host.Outcome State Fault Refusal :=
  State.event (fun s => if s.gate.scanDue then s.scan else s) s

/-! ### Settle and failure -/

/-- A segment's entry leaves the segments in flight: a slot is freed and the busy mark clears, causes for a scan (R117). -/
def Gate.endFlight (f : Flight) (g : Gate) : Gate :=
  { g with flights := g.flights.filter (fun x => x.turbine != f.turbine), scanDue := true }

/-- A record finishes by its segment's end. -/
def State.finishRecord (r : MoveRecord) (st : RecordState) (cause : Option FinishCause) (s : State) : State :=
  s.onGate (Gate.onRecord r.sequence (MoveRecord.finish st cause s.now))

/-- How a settled segment's record goes on (R122, step 4): the final state and its cause, or READY again. -/
def settleOutcome (fate : Fate) (atTarget : Bool) : Option (RecordState × Option FinishCause) :=
  if atTarget then some (.settled, none)
  else match fate with
    | .own | .urgent => none
    | .superseded => some (.superseded, none)
    | .aborted => some (.cancelled, some .abort)

/-- The settle of a segment (R122, steps 1 to 5). -/
def State.settle (f : Flight) (s : State) : State :=
  let s := s.onGate fun g => (g.endFlight f).onRecord f.record fun r => { r with done := r.done + 1 }
  match s.gate.record f.record with
  | none => s
  | some r =>
    match settleOutcome f.fate (s.gate.component f.turbine == r.target) with
    | some (st, cause) => (s.finishRecord r st cause).recordFinished r .settled
    | none => s.onGate (Gate.makeReady r.sequence r.cls)

/-- A failure charged to the installed plan (R125, step 4): abort at F, otherwise a FAILURE notice and the completion
test. -/
def State.chargeFailure (s : State) : State :=
  match s.gate.installed with
  | none => s
  | some p =>
    let p := { p with failures := p.failures + 1 }
    let s := s.onGate fun g => { g with installed := some p }
    if s.planner.params.failureLimit ≤ p.failures then s.abortPlan p .failureLimit
    else (s.notify (.failure p.number p.failures)).testCompletion

/-- The failure of a segment (R125): outcome, Fleet report, MOVE notice, count. -/
def State.fail (f : Flight) (cause : FinishCause) (s : State) : State :=
  let s := s.onGate (Gate.endFlight f)
  let s := match s.gate.record f.record with
    | some r => s.finishRecord r .failed (some cause)
    | none => s
  let s := (s.onFleet (Fleet.failureReported f.turbine)).notify (.moveFailed f.record f.turbine cause f.target)
  match f.fate with
  | .own => s.chargeFailure
  | .urgent =>
    let s := s.report (.urgentFinishReport .failed)
    if s.gate.urgentUnfinished then s else s.report .unwindEnd
  | .superseded | .aborted => s

/-- A sample at the Gate (R122, R123, R125): it acts on the turbine's segment in LIVE and UNWIND only. -/
def State.segmentSampled (t : Nat) (yaw : YawState) (achieved : Int) (s : State) : State :=
  if sending s.gate.modeIn then
    match s.gate.flightOf t with
    | none => s
    | some f => match yaw with
      | .fault => s.fail f .yawFault
      | .locked => s.fail f .locked
      | .running => s
      | .idle =>
        if (achieved - s.commandedBias t).natAbs ≤ s.planner.params.settleTol then s.settle f else s
  else s

/-- SEGMENT_SAMPLE (R122, R125). -/
def execSegmentSample (t : Nat) (yaw : YawState) (achieved : Int) (s : State) : Host.Outcome State Fault Refusal :=
  State.event (State.segmentSampled t yaw achieved) s

/-- The running timeout of a turbine's segment. -/
def Gate.timeoutOf (g : Gate) (t : Nat) : Timer :=
  (g.flightOf t).bind fun f => if f.simulated then none else some f.expires

/-- The running simulated settle timer of a turbine's segment. -/
def Gate.simulatedOf (g : Gate) (t : Nat) : Timer :=
  (g.flightOf t).bind fun f => if f.simulated then some f.expires else none

/-- TIMEOUT_EXPIRY (R124). -/
def execTimeoutExpiry (t : Nat) (s : State) : Host.Outcome State Fault Refusal :=
  State.event (fun s => s.expire (s.gate.timeoutOf t) fun s =>
    match s.gate.flightOf t with
    | some f => s.fail f .timeout
    | none => s) s

/-- SIMULATED_SETTLE_EXPIRY (R123). -/
def execSimulatedSettleExpiry (t : Nat) (s : State) : Host.Outcome State Fault Refusal :=
  State.event (fun s => s.expire (s.gate.simulatedOf t) fun s =>
    match s.gate.flightOf t with
    | some f => s.settle f
    | none => s) s

/-! ### Hold -/

/-- The reports and notices of a start or an end of hold (R127), `was` telling whether hold was in effect before. -/
def State.holdChanged (was : Bool) (s : State) : State :=
  if s.gate.hold = was then s
  else
    let s := s.onGate Gate.showPlan
    if s.gate.hold then
      let s := s.report (.holdReport true)
      match s.gate.installed with
      | some p => s.notify (.held p.number p.planTime s.gate.requestHold s.gate.lineHold)
      | none => s
    else
      let s := (s.report (.holdReport false)).onGate fun g => { g with scanDue := true }
      match s.gate.installed with
      | some p => s.notify (.resumed p.number p.planTime p.state)
      | none => s

/-- Set or clear the request hold (R127). -/
def State.setRequestHold (b : Bool) (s : State) : State :=
  (s.onGate fun g => { g with requestHold := b }).holdChanged s.gate.hold

/-- Set or clear the line hold (R127, R171). -/
def State.setLineHold (b : Bool) (s : State) : State :=
  (s.onGate fun g => { g with lineHold := b }).holdChanged s.gate.hold

/-- GRIDHOLD_REPORT (R171, R127). -/
def execGridholdReport (isActive : Bool) (s : State) : Host.Outcome State Fault Refusal :=
  State.reported (.gridholdReport isActive) (State.setLineHold isActive) s

/-- HOLD (R127). -/
def execHold (h : ReqHead) (a : Option Unit) (s : State) : Host.Outcome State Fault Refusal :=
  s.atOnce (.hold h a) h unitGate fun s =>
    match a with
    | none => refuse .badArg s
    | some _ => accept (s.setRequestHold true)

/-- RESUME (R128). -/
def execResume (h : ReqHead) (a : Option Unit) (s : State) : Host.Outcome State Fault Refusal :=
  s.atOnce (.resume h a) h unitGate fun s =>
    match a with
    | none => refuse .badArg s
    | some _ =>
      if !s.gate.requestHold then refuse .notHeld s
      else (s.setRequestHold false, if s.gate.lineHold then .stillHeld else .ok, [])

/-! ### Mode entries -/

/-- GATE_MODE_CHANGE: entry to LIVE or DRY sets the mode input (R160). -/
def execGateModeChange (m : SteeringMode) (s : State) : Host.Outcome State Fault Refusal :=
  State.reported (.gateModeChange m) (State.onGate fun g => { g with modeIn := m.mode }) s

/-- An URGENT record for a turbine (R129, step 3): created READY, at the tail of the urgent ready queue. -/
def Gate.createUrgent (plan step t : Nat) (g : Gate) : Gate :=
  let from_ := g.component t
  let g := g.create
    { sequence := 0, plan := plan, cls := .urgent, turbine := t, wave := none, source := from_, target := 0,
      segments := ceilDiv from_.natAbs step, done := 0, segmentTarget := none, grantTime := none, state := .ready,
      cause := none, finishTime := none }
  { g with urgentQueue := g.urgentQueue ++ [g.recordCounter], scanDue := true }

/-- The turbines an unwind creates records for: in index order, every one whose component is not 0 (R129). -/
def Gate.steeredTurbines (g : Gate) : List Nat :=
  (List.range Config.turbines).filter fun t => g.component t != 0

/-- Create the URGENT records of an unwind. -/
def Gate.createAllUrgent (plan step : Nat) : List Nat → Gate → Gate
  | [], g => g
  | t :: ts, g => Gate.createAllUrgent plan step ts (g.createUrgent plan step t)

/-- Entry to UNWIND at the Gate (R129), and the figures it hands to the Mode Controller (R165). -/
def State.enterUnwind (s : State) : State :=
  let s := s.onGate fun g => { g with modeIn := .unwind }
  let plan := (s.gate.installed.map (·.number)).getD 0
  let s := match s.gate.installed with
    | some p => s.abortPlan p .unwind
    | none => s
  let s := s.setRequestHold false
  let ts := s.gate.steeredTurbines
  let s := s.onGate (Gate.createAllUrgent plan s.planner.params.maxStep ts)
  let s := s.report (.unwindFigures plan ts.length)
  if s.gate.urgentUnfinished then s else s.report .unwindEnd

/-- UNWIND_ENTRY (R129). -/
def execUnwindEntry (s : State) : Host.Outcome State Fault Refusal :=
  State.reported .unwindEntry State.enterUnwind s

/-- The finish reports of the URGENT records an entry to OFF cancels, and the end report (R129, R167). DEDUCED (log entry
29). -/
def State.reportCancelled (n : Nat) (s : State) : State :=
  if n = 0 then s
  else { s with reports := s.reports ++ List.replicate n (.urgentFinishReport .cancelled) ++ [.unwindEnd] }

/-- Everything in flight or waiting ends and every component returns to 0 (R130, steps 2 to 4; R132, steps 2 to 4). -/
def Gate.cancelEverything (cause : FinishCause) (second : Nat) (g : Gate) : Gate :=
  { g.finishAll (fun _ => true) .cancelled (some cause) second with
    normalQueue := [], urgentQueue := [], flights := [], components := ⟨[]⟩ }

/-- Entry to OFF at the Gate (R130). -/
def State.enterOff (s : State) : State :=
  let s := s.onGate fun g => { g with modeIn := .off }
  let s := match s.gate.installed with
    | some p => s.endAborted p .disable
    | none => s
  let n := s.gate.ring.countP fun r => r.cls == .urgent && !r.state.finished
  (s.onGate fun g => { g.cancelEverything .disable s.now with scanDue := g.scanDue || !g.flights.isEmpty }).reportCancelled n

/-- OFF_ENTRY (R130). -/
def execOffEntry (s : State) : Host.Outcome State Fault Refusal :=
  State.reported .offEntry State.enterOff s

/-! ### Requests -/

/-- SET_BUDGETS (R121): the change is a cause for a scan. -/
def execSetBudgets (h : ReqHead) (a : Option SetBudgetsArgs) (s : State) : Host.Outcome State Fault Refusal :=
  s.atOnce (.setBudgets h a) h unitGate fun s =>
    match a with
    | none => refuse .badArg s
    | some x =>
      if budgetsOk x then
        accept (s.onGate fun g => { g with budgets := x.bands, urgentBudget := x.urgent, scanDue := true })
      else refuse .badArg s

/-- A wave of a plan record (Table 6-3). -/
def encWave (w : Wave) : List Byte :=
  u16 w.row ++ u16 w.offset ++ encOption u16 w.delay ++ encList u32 w.sequences

/-- A plan record with every field of Table 6-3 (R112). -/
def encPlan (p : Plan) : List Byte :=
  u16 p.number ++ encPair p.pair ++ u16 p.speed ++ u16 p.trim ++ encList encWave p.waves ++ encPlanState p.state ++
    u16 p.planTime ++ u16 p.failures ++ u16 p.nextWave

/-- The result of READ_PLAN (R112). The eight budgets are plain fields with no count before them. DESIGN CHOICE (log entry 37). -/
def State.planResult (s : State) : List Byte :=
  let g := s.gate
  encFlag g.installed.isSome ++ encOption encPlan (g.installed.or g.last) ++ encOption encPair g.steered ++
    encFlag g.requestHold ++ encFlag g.lineHold ++ encFlag g.hold ++ u16 g.flights.length ++
    (g.budgets.map u16).flatten ++ u16 g.urgentBudget ++ encOption u16 g.normalBudget ++ u16 g.normalQueue.length ++
    u16 g.urgentQueue.length ++ u16 g.planCounter ++ encOption u32 (g.ring.head?.map (·.sequence)) ++
    encOption u32 (g.ring.getLast?.map (·.sequence)) ++ u32 s.now

/-- READ_PLAN (R112). -/
def execReadPlan (h : ReqHead) (a : Option Unit) (s : State) : Host.Outcome State Fault Refusal :=
  s.atOnce (.readPlan h a) h unitGate (readOnly a State.planResult)

/-- The class of a record (Table 7-2). -/
def encClass : MoveClass → List Byte
  | .normal => u8 0 | .urgent => u8 1

/-- The state of a record, in the order of Table 7-2. Table 3-7 lets it be the codes of the turbine move state of Table 3-3 as
well. DESIGN CHOICE (log entry 47). -/
def encRecordState : RecordState → List Byte
  | .pending => u8 0 | .ready => u8 1 | .inFlight => u8 2 | .settled => u8 3 | .failed => u8 4 | .skipped => u8 5
  | .cancelled => u8 6 | .superseded => u8 7

/-- A move record with every field of Table 7-2 (R115). -/
def encRecord (r : MoveRecord) : List Byte :=
  u32 r.sequence ++ u16 r.plan ++ encClass r.cls ++ u16 r.turbine ++ encOption u16 r.wave ++ i16 r.source ++
    i16 r.target ++ u16 r.segments ++ u16 r.done ++ encOption i16 r.segmentTarget ++ encOption u32 r.grantTime ++
    encRecordState r.state ++ encOption encFinishCause r.cause ++ encOption u32 r.finishTime

/-- The ring stands across the wrap of the record numbers: a record is numbered lower than the oldest (R113). -/
def Gate.ringWraps (g : Gate) : Bool :=
  match g.ring with
  | [] => false
  | oldest :: _ => g.ring.any fun r => decide (r.sequence < oldest.sequence)

/-- The records READ_MOVES returns: from the first sequence upward, at most `count` (R115); across the wrap, upward is the
order of creation. DEDUCED (log entry 41). -/
def Gate.recordsFrom (g : Gate) (first count : Nat) : List MoveRecord :=
  (if g.ringWraps then g.ring.dropWhile fun r => r.sequence != first
   else g.ring.filter fun r => decide (first ≤ r.sequence)).take count

/-- The OK result of READ_MOVES (R115). -/
def Gate.movesResult (g : Gate) (first count : Nat) : List Byte :=
  encOption u32 (g.ring.head?.map (·.sequence)) ++ encOption u32 (g.ring.getLast?.map (·.sequence)) ++
    encList encRecord (g.recordsFrom first count)

/-- The answer to READ_MOVES (R115): OVERWRITTEN for a number lower than the oldest retained that is itself not retained.
DEDUCED (log entry 41). -/
def Gate.readMoves (g : Gate) (first count : Nat) : Status × List Byte :=
  if !within 1 16 count then (.badArg, [])
  else match g.ring.head? with
    | none => (.ok, g.movesResult first count)
    | some oldest =>
      if first < oldest.sequence ∧ (g.record first).isNone = true then (.overwritten, u32 oldest.sequence)
      else (.ok, g.movesResult first count)

/-- READ_MOVES (R115). -/
def execReadMoves (h : ReqHead) (a : Option (Nat × Nat)) (s : State) : Host.Outcome State Fault Refusal :=
  s.atOnce (.readMoves h a) h unitGate fun s =>
    match a with
    | none => refuse .badArg s
    | some (first, count) => (s, s.gate.readMoves first count)

end Sys2Proof.Machine
end

