-- ==== Sys2Proof/Machine/Install.lean ====
section
/-! DEFINITION. The install (R93-R97), one event at the Release Gate: the completion of a retarget build, the supersession
of the old plan, the creation of the new plan's records, the release of wave 0, the reports, and what an entry to UNWIND or
OFF that the Gate has already taken makes of the new plan (R168). -/

namespace Sys2Proof.Machine

/-- The next plan number: the counter plus one, wrapping from 65535 to 1 (R93, step 1). -/
def nextPlanNumber (n : Nat) : Nat := if n = 65535 then 1 else n + 1

/-- The supersession of the installed plan (R94): PENDING and READY records finish SUPERSEDED, segments in flight take fate
SUPERSEDED, and the plan becomes the last plan. -/
def Gate.supersede (p : Plan) (second : Nat) (g : Gate) : Gate :=
  { ((g.finishAll (fun r => r.ofPlan p.number && r.waiting) .superseded none second).disown .superseded) with
    installed := none, last := some { p with state := .superseded } }

/-- A NORMAL record as an install creates it, before its sequence number (R95). -/
def newRecord (plan wave t : Nat) (source target : Int) (step : Nat) : MoveRecord :=
  { sequence := 0, plan := plan, cls := .normal, turbine := t, wave := some wave, source := source, target := target,
    segments := segmentCount step (target - source), done := 0, segmentTarget := none, grantTime := none,
    state := .pending, cause := none, finishTime := none }

/-- The record created for a member, or none within the deadband (R95). -/
def State.memberRecord (s : State) (plan wave t : Nat) (target : Int) : Option MoveRecord :=
  let source := s.gate.component t
  let r := newRecord plan wave t source target s.planner.params.maxStep
  if (s.fleet.dynamic t).availability = .fault then some (r.finish .skipped (some .unavailable) s.now)
  else if (target - source).natAbs ≤ s.planner.params.deadband then none
  else some r

/-- The records of one wave, in the member order of its row (R95). -/
def State.waveRecords (s : State) (b : Build) (plan wave : Nat) (w : Slot) : List MoveRecord :=
  (s.fleet.row w.row).members.filterMap fun t =>
    s.memberRecord plan wave t (planTarget s.tables.activeBank b.pair b.inputs.biasLimit t)

/-- Create records in order: the gate after, and the sequence numbers they took (R95, R113). -/
def Gate.createRecords : List MoveRecord → Gate → Gate × List Nat
  | [], g => (g, [])
  | r :: rs, g =>
    let g := g.create r
    let rest := Gate.createRecords rs g
    (rest.1, g.recordCounter :: rest.2)

/-- Create the records of every wave in wave order: the gate after, and the waves of the plan record (R95). -/
def Gate.createWaves : List (Slot × List MoveRecord) → Gate → Gate × List Wave
  | [], g => (g, [])
  | (w, rs) :: ws, g =>
    let made := g.createRecords rs
    let rest := Gate.createWaves ws made.1
    (rest.1, ⟨w.row, w.offset, w.delay, made.2, false⟩ :: rest.2)

/-- The records the install creates, wave by wave, each wave with its slot of the schedule. -/
def State.planRecords (s : State) (b : Build) (plan : Nat) : List (Slot × List MoveRecord) :=
  (numbered 0 (schedule b.inputs (s.planRecord b.pair))).map fun x =>
    (x.2, s.waveRecords b plan x.1 x.2)

/-- The plan record at install (R93, step 4; Table 6-3). -/
def newPlan (b : Build) (number : Nat) (waves : List Wave) : Plan :=
  { number := number, pair := b.pair, speed := b.inputs.speed, trim := b.inputs.trim, waves := waves,
    state := .running, planTime := 0, failures := 0, nextWave := 1 }

/-- The MOVE notices of the records created SKIPPED (R97). -/
def State.notifySkipped : List MoveRecord → State → State
  | [], s => s
  | r :: rs, s => (s.notify (.moveSkipped r.sequence r.turbine .unavailable)).notifySkipped rs

/-- The records of a plan that stand in the ring in a state, in creation order. -/
def Gate.planRecordsIn (g : Gate) (plan : Nat) (st : RecordState) (waves : List Wave) : List MoveRecord :=
  g.ring.filter fun r => r.ofPlan plan && r.state == st && waves.any (fun w => w.sequences.contains r.sequence)

/-- The reports and notices of an install (R97). The report to the Table Store stands before the Planner's that the build has
ended (R77). -/
def State.reportInstall (p : Plan) (trim created skipped : Nat) (old : Option Nat) (skips : List MoveRecord) (s : State) :
    State :=
  let info : InstallInfo := ⟨p.number, p.pair, trim, p.waves.map (fun w => ⟨w.row, w.delay⟩), old⟩
  (((s.report (.swapConditionReport (.planInstalled true))).report (.installReport info)).notify
    (.installed p.number p.pair p.waves.length created skipped (old.getD 0))).notifySkipped skips

/-- Steps 1 to 6 of the install at the Gate (R93): the number, the supersession, the records, the installed plan with wave 0
released, and the steered pair. -/
def State.installPlan (b : Build) (s : State) : State :=
  let number := nextPlanNumber s.gate.planCounter
  let records := s.planRecords b number
  s.onGate fun g =>
    let g := { g with planCounter := number }
    let g := match g.installed with
      | some p => g.supersede p s.now
      | none => g
    let made := g.createWaves records
    let p := newPlan b number made.2
    let first := match made.2 with
      | [] => []
      | w :: _ => w.sequences
    ({ made.1.releaseRecords first with installed := some p, steered := some b.pair }).showPlan

/-- The report of a new mode to the Release Gate, by the command that takes it. -/
def gateReport : Mode → Instr
  | .off => .offEntry
  | .live => .gateModeChange .live
  | .dry => .gateModeChange .dry
  | .unwind => .unwindEntry

/-- The mode that a command reports to the Release Gate. -/
def gateReportOf : Instr → Option Mode
  | .offEntry => some .off
  | .unwindEntry => some .unwind
  | .gateModeChange .live => some .live
  | .gateModeChange .dry => some .dry
  | _ => none

/-- The changes of mode that the Gate has taken and the Planner has not, each block taking its reports in the order they were
made (R160): the older of those still under way to the Planner. DEDUCED (log entry 43). -/
def State.gateAhead (s : State) : List Mode :=
  let toPlanner := s.reports.filterMap plannerReportOf
  toPlanner.take (toPlanner.length - (s.reports.filterMap gateReportOf).length)

/-- The entry to UNWIND or OFF that the Gate has taken ahead of the Planner (R168): the first such change of mode that the Gate
is ahead by, or, failing one, the OFF or UNWIND that stands as its mode input with no report of LIVE or DRY to come. DEDUCED
(log entry 43). -/
def State.entryTaken (s : State) : Option Mode :=
  match s.gateAhead.find? fun m => !steering m with
  | some m => some m
  | none =>
    if steering s.gate.modeIn || s.reports.contains (.gateModeChange .live) || s.reports.contains (.gateModeChange .dry)
    then none else some s.gate.modeIn

/-- What an entry to UNWIND or OFF that the Gate has already taken makes of the new plan, within the install (R168). -/
def State.abortAfterEntry (s : State) : State :=
  match s.gate.installed with
  | none => s
  | some p => match s.entryTaken with
    | none | some .live | some .dry => s
    | some .unwind => s.abortPlan p .unwind
    | some .off => (s.cancelWaiting p .disable).endAborted p .disable

/-- The install of a retarget build (R93, R97, R168), and the end of the build. DEDUCED (log entry 32). -/
def State.installed (b : Build) (s : State) : State :=
  let old := s.gate.installed.map (·.number)
  let s := s.installPlan b
  let s := match s.gate.installed with
    | none => s
    | some p =>
      let skips := s.gate.planRecordsIn p.number .skipped p.waves
      let created := (p.waves.map fun (w : Wave) => w.sequences.length).sum
      let s := s.reportInstall p b.inputs.trim (created - skips.length) skips.length old skips
      if p.waves.length ≤ 1 then s.testCompletion else s
  (s.abortAfterEntry.endBuild).tryBuild

/-- INSTALL (R93): the completion of the retarget build in progress; nothing happens without one. -/
def execInstall (s : State) : Host.Outcome State Fault Refusal :=
  State.event (fun s => match s.planner.build with
    | none => s
    | some b => match b.kind with
      | .retarget => s.installed b
      | .preview => s) s

end Sys2Proof.Machine
end

