-- ==== Sys2Proof/Machine/ModeControl.lean ====
section
/-! DEFINITION. The Mode Controller (section 10): the change of mode and its reports (R159, R160), the requests of the MODE
unit (R161-R164, R172, R173), the unwind (R165-R167) and the discrete lines (R169-R171). -/

namespace Sys2Proof.Machine

/-! ### A change of mode -/

/-- STEERING is asserted in LIVE and UNWIND (R159). -/
def steeringOutput : Mode → Bool
  | .live | .unwind => true
  | .off | .dry => false

/-- The six reports of a change of mode, in the order R160 names the blocks. -/
def modeReports (m : Mode) : List Instr :=
  [.linePathModeChange m, .estimatorModeChange m, .plannerModeChange m, gateReport m, .upkeepModeChange m,
   .arrivalMonitorModeChange m]

/-- The Mode Controller's part of a change of mode (R159). -/
def ModeController.enter (cause : ModeCause) (next : Mode) (second : Nat) (m : ModeController) : ModeController :=
  { m with mode := next, steering := steeringOutput next, latest := ⟨cause, second, m.mode, next⟩ }

/-- A change of mode: mode, STEERING, latest cause, the reports and the MODE notice (R159, R160). -/
def State.changeMode (cause : ModeCause) (next : Mode) (unwound : Option UnwindRecord) (s : State) : State :=
  let before := s.modes.mode
  let s := s.onModes (ModeController.enter cause next s.now)
  { s with
    reports := s.reports ++ modeReports next
    notices := s.notices ++ [.modeChanged before next cause s.now unwound] }

/-! ### The unwind record -/

/-- The unwind record at the start of an unwind (R165). -/
def newUnwind (second : Nat) : UnwindRecord := ⟨.inProgress, second, none, 0, 0, 0, 0, 0, 0⟩

/-- The CANCELLED count of an unwind ended early: the created count less the other three (R165, R167, R174). -/
def cancelRest (r : UnwindRecord) : UnwindRecord :=
  { r with cancelled := r.created - (r.settled + r.failed + r.skipped) }

/-- The end of an unwind by DISABLE or RESTART: INCOMPLETE (R167, R174). -/
def breakOffUnwind (second : Nat) (r : UnwindRecord) : UnwindRecord :=
  { cancelRest r with outcome := .incomplete, endSecond := some second }

/-- The end of an unwind at the Gate's report: COMPLETE if every URGENT record finished SETTLED (R166). DEDUCED (log entry
25). -/
def concludeUnwind (second : Nat) (r : UnwindRecord) : UnwindRecord :=
  { r with
    outcome := if r.failed = 0 ∧ r.skipped = 0 ∧ r.cancelled = 0 then .complete else .incomplete
    endSecond := some second }

/-- Entry to UNWIND, by request or by STORM: a new unwind record, then the change of mode (R165). -/
def State.beginUnwind (cause : ModeCause) (s : State) : State :=
  (s.onModes fun m => { m with unwindRecord := some (newUnwind s.now) }).changeMode cause .unwind none

/-- The end of an unwind: `f` ends the record, the mode becomes OFF, the notice carries the record (R166, R167). -/
def State.endUnwind (cause : ModeCause) (f : UnwindRecord → UnwindRecord) (s : State) : State :=
  let ended := s.modes.unwindRecord.map f
  (s.onModes fun m => { m with unwindRecord := ended }).changeMode cause .off ended

/-- The figures the Gate hands at the entry, written into the unwind record; one that has ended has its CANCELLED count
taken anew (R165). DEDUCED (log entry 25). -/
def writeFigures (plan created : Nat) (r : UnwindRecord) : UnwindRecord :=
  let r := { r with planAborted := plan, created := created }
  if r.endSecond.isSome then cancelRest r else r

/-- The Mode Controller takes the Gate's figures (R165). Figures of an earlier unwind, taken after a new one has begun, are
written into the new one's record, the earlier record standing no more. DESIGN CHOICE (log entry 45). -/
def State.figuresTaken (plan created : Nat) : State → State :=
  State.onModes fun m => { m with unwindRecord := m.unwindRecord.map (writeFigures plan created) }

/-- The finish of an URGENT record counted (R166). R166's table has no CANCELLED finish in UNWIND: one taken there, left under way
from an earlier unwind, raises the CANCELLED count. DESIGN CHOICE (log entry 39). -/
def countFinish (o : UrgentOutcome) (r : UnwindRecord) : UnwindRecord :=
  match o with
  | .settled => { r with settled := r.settled + 1 }
  | .failed => { r with failed := r.failed + 1 }
  | .skipped => { r with skipped := r.skipped + 1 }
  | .cancelled => { r with cancelled := r.cancelled + 1 }

/-- The Mode Controller takes the finish of an URGENT record: counted while the mode is UNWIND, and otherwise not used (R166,
R167). -/
def State.finishTaken (o : UrgentOutcome) : State → State :=
  State.onModes fun m => if m.mode = .unwind then { m with unwindRecord := m.unwindRecord.map (countFinish o) } else m

/-- The Mode Controller takes the report that no URGENT record is unfinished: the unwind ends while the mode is UNWIND, and
otherwise nothing changes (R166, R167). One left under way from an earlier unwind ends the new unwind too. DESIGN CHOICE (log
entry 50). -/
def State.endTaken (s : State) : State :=
  if s.modes.mode = .unwind then s.endUnwind .unwindEnd (concludeUnwind s.now) else s

/-- The command is the taking of a report of the Gate to the Mode Controller (R165, R166). -/
def toModes : Instr → Bool
  | .unwindFigures _ _ | .urgentFinishReport _ | .unwindEnd => true
  | _ => false

/-- What a report of the Gate does at the Mode Controller; a command that is none of these does nothing there. -/
def State.takeAtModes (c : Instr) (s : State) : State :=
  match c with
  | .unwindFigures plan created => s.figuresTaken plan created
  | .urgentFinishReport o => s.finishTaken o
  | .unwindEnd => s.endTaken
  | _ => s

/-- A report of the Gate is taken by the Mode Controller, and before it those of the Gate's that stand ahead of it: the figures
before the finishes and the end that follow from the entry (R165), and the finishes before the end. DEDUCED (log entry 51). -/
def State.takenAtModes : Instr → State → State := State.takeInOrder toModes State.takeAtModes

/-- UNWIND_FIGURES (R165). -/
def execUnwindFigures (plan created : Nat) (s : State) : Host.Outcome State Fault Refusal :=
  State.event (State.takenAtModes (.unwindFigures plan created)) s

/-- URGENT_FINISH_REPORT (R166, R167). -/
def execUrgentFinishReport (o : UrgentOutcome) (s : State) : Host.Outcome State Fault Refusal :=
  State.event (State.takenAtModes (.urgentFinishReport o)) s

/-- UNWIND_END (R166, R167). -/
def execUnwindEnd (s : State) : Host.Outcome State Fault Refusal :=
  State.event (State.takenAtModes .unwindEnd) s

/-! ### Mode requests -/

/-- The STORM line refuses ENABLE: enabled and ACTIVE (R161). -/
def ModeController.stormBlocks (m : ModeController) : Bool := m.storm.config.enabled && m.storm.isActive

/-- ENABLE (R161). -/
def execEnable (h : ReqHead) (a : Option Unit) (s : State) : Host.Outcome State Fault Refusal :=
  s.atOnce (.enable h a) h unitMode fun s =>
    match a with
    | none => refuse .badArg s
    | some _ =>
      if s.modes.mode ≠ .off then refuse .badMode s
      else if !s.tables.valid then refuse .noTables s
      else if s.modes.stormBlocks then refuse .lineActive s
      else accept (s.changeMode .enable .live none)

/-- DRY (R162). -/
def execDry (h : ReqHead) (a : Option Unit) (s : State) : Host.Outcome State Fault Refusal :=
  s.atOnce (.dry h a) h unitMode fun s =>
    match a with
    | none => refuse .badArg s
    | some _ =>
      if s.modes.mode ≠ .off then refuse .badMode s
      else if !s.tables.valid then refuse .noTables s
      else accept (s.changeMode .dry .dry none)

/-- The effect of DISABLE by mode (R163, R167). DEDUCED (log entry 24). -/
def State.disable (s : State) : State :=
  match s.modes.mode with
  | .off => s
  | .live | .dry => s.changeMode .disable .off none
  | .unwind => s.endUnwind .disable (breakOffUnwind s.now)

/-- DISABLE (R163). -/
def execDisable (h : ReqHead) (a : Option Unit) (s : State) : Host.Outcome State Fault Refusal :=
  s.atOnce (.disable h a) h unitMode fun s =>
    match a with
    | none => refuse .badArg s
    | some _ => accept s.disable

/-- UNWIND (R164). -/
def execUnwind (h : ReqHead) (a : Option Unit) (s : State) : Host.Outcome State Fault Refusal :=
  s.atOnce (.unwind h a) h unitMode fun s =>
    match a with
    | none => refuse .badArg s
    | some _ =>
      match s.modes.mode with
      | .live => accept (s.beginUnwind .unwindRequest)
      | .unwind => accept s
      | .off | .dry => refuse .badMode s

/-! ### The discrete lines -/

/-- A STORM activation by mode (R170). -/
def State.stormActivated (s : State) : State :=
  match s.modes.mode with
  | .live => s.beginUnwind .storm
  | .dry => s.changeMode .storm .off none
  | .off | .unwind => s.onModes fun m => { m with latest := ⟨.storm, s.now, m.mode, m.mode⟩ }

/-- A line takes a new level (R169): the level is recorded; the state of an enabled line follows it. -/
def LineState.take (v : Level) (l : LineState) : LineState :=
  { l with level := v, isActive := if l.config.enabled then lineIsActive l.config v else l.isActive }

/-- The GRIDHOLD state is reported to the Gate where it has changed (R171). -/
def State.reportGridhold (was : Bool) (s : State) : State :=
  if s.modes.gridhold.isActive = was then s else s.report (.gridholdReport s.modes.gridhold.isActive)

/-- A change of level at a line (R169-R171). -/
def State.lineChanged (l : Line) (v : Level) (s : State) : State :=
  match l with
  | .storm =>
    if s.modes.storm.level = v then s
    else
      let was := s.modes.storm.isActive
      let s := s.onModes fun m => { m with storm := m.storm.take v }
      if s.modes.storm.isActive && !was then s.stormActivated else s
  | .gridhold =>
    if s.modes.gridhold.level = v then s
    else
      let was := s.modes.gridhold.isActive
      (s.onModes fun m => { m with gridhold := m.gridhold.take v }).reportGridhold was

/-- LINE_LEVEL_CHANGE (R169). -/
def execLineLevelChange (l : Line) (v : Level) (s : State) : Host.Outcome State Fault Refusal :=
  State.event (State.lineChanged l v) s

/-- A line set afresh under a configuration from a level, without an activation (R172, R174). -/
def LineState.afresh (c : LineConfig) (v : Level) : LineState := ⟨c, v, lineIsActive c v⟩

/-- The effect of SET_LINES (R172). -/
def State.setLines (storm gridhold : LineConfig) (s : State) : State :=
  let was := s.modes.gridhold.isActive
  (s.onModes fun m => { m with storm := .afresh storm m.storm.level,
                               gridhold := .afresh gridhold m.gridhold.level }).reportGridhold was

/-- SET_LINES (R172). -/
def execSetLines (h : ReqHead) (a : Option (LineConfig × LineConfig)) (s : State) : Host.Outcome State Fault Refusal :=
  s.atOnce (.setLines h a) h unitMode fun s =>
    if s.modes.mode ≠ .off then refuse .badMode s
    else match a with
      | none => refuse .badArg s
      | some (storm, gridhold) => accept (s.setLines storm gridhold)

/-! ### Reading the mode -/

/-- A line's configuration, level and state (R173). -/
def encLine (l : LineState) : List Byte :=
  encFlag l.config.enabled ++ encEdge l.config.edge ++ encLevel l.level ++ encFlag l.isActive

/-- The result of READ_MODE (R173). -/
def State.modeResult (s : State) : List Byte :=
  let m := s.modes
  encMode m.mode ++ encFlag m.steering ++ encModeCause m.latest.cause ++ u32 m.latest.second ++
    encMode m.latest.before ++ encMode m.latest.after ++ encOption encUnwind m.unwindRecord ++ encLine m.storm ++
    encLine m.gridhold ++ u32 s.now

/-- READ_MODE (R173). -/
def execReadMode (h : ReqHead) (a : Option Unit) (s : State) : Host.Outcome State Fault Refusal :=
  s.atOnce (.readMode h a) h unitMode (readOnly a State.modeResult)

end Sys2Proof.Machine
end

