-- ==== Sys2Proof/Machine/Notices.lean ====
section
/-! DEFINITION. The Dispatcher's own events and requests (section 11): the envelope check (R175), the composing and entry of
notices (Table 11-2, R179), and the requests of the LINK unit (R181-R183). Replies and the moving of notices are in
Egress.lean. -/

namespace Sys2Proof.Machine

/-! ### The envelope -/

/-- The envelope check of R175, in order: the status of a refusal, or none where the request is handed to its unit. -/
def Dispatcher.envelopeStatus (d : Dispatcher) (r : Request) : Option Status :=
  if r.head.transaction = 255#8 then some .badArg
  else if (requestCommand r).isNone then some .unknown
  else if !lengthsAgree r then some .badArg
  else if d.unitBusy r.unitCode.toNat then some .busy
  else none

/-- UNKNOWN_REQUEST: a request that fails the envelope check is taken and answered (R175). One that would pass it is no
such request, and nothing happens. -/
def execUnknownRequest (r : Request) (s : State) : Host.Outcome State Fault Refusal :=
  .next <|
    match s.takeRequest (.unknownRequest r) with
    | none => s
    | some taken =>
      match taken.dispatcher.envelopeStatus r with
      | some st => taken.answer r.head r.unitCode.toNat st []
      | none => s

/-! ### Notices -/

/-- The figures of the MODE notice, present at entry to UNWIND only (Table 11-2, R165). -/
def unwindFiguresOf (after : Mode) (r : Option UnwindRecord) : Option (Nat × Nat) :=
  if after = .unwind then some ((r.map (·.planAborted)).getD 0, (r.map (·.created)).getD 0) else none

/-- A notice composed: class, event code and data (Table 11-2). `r` is the unwind record as it stands. DEDUCED (log entry
24). -/
def composeNotice (r : Option UnwindRecord) : Notice → PendingNotice
  | .installed p q w n k o =>
    ⟨0, 1, u16 p ++ encPair q ++ u16 w ++ u16 n ++ u16 k ++ u16 o, false⟩
  | .held p t rh lh => ⟨0, 2, u16 p ++ u16 t ++ encFlag rh ++ encFlag lh, false⟩
  | .resumed p t st => ⟨0, 3, u16 p ++ u16 t ++ encPlanState st, false⟩
  | .failure p n => ⟨0, 4, u16 p ++ u16 n, false⟩
  | .aborted p c n => ⟨0, 5, u16 p ++ encAbortCause c ++ u16 n, false⟩
  | .complete p q t n a b c =>
    ⟨0, 6, u16 p ++ encPair q ++ u16 t ++ u16 n ++ u16 a ++ u16 b ++ u16 c, false⟩
  | .moveSkipped q t c => ⟨1, 1, u32 q ++ u16 t ++ encFinishCause c, false⟩
  | .moveFailed q t c g => ⟨1, 2, u32 q ++ u16 t ++ encFinishCause c ++ i16 g, false⟩
  | .modeChanged b a c sec u =>
    let f := unwindFiguresOf a r
    ⟨2, 1, encMode b ++ encMode a ++ encModeCause c ++ u32 sec ++ encOption u16 (f.map (·.1)) ++
      encOption u16 (f.map (·.2)) ++ encOption encUnwind u, false⟩
  | .bankSwapped l d sec => ⟨3, 1, encLetter l ++ encFlag d ++ u32 sec, false⟩
  | .trimStepped x b a net p => ⟨3, 2, u16 x ++ u16 b ++ u16 a ++ i16 net ++ u16 p, false⟩

/-- A notice replaces the waiting one of its class, keeping its place, with merged flag 1 (R179). -/
def replaceNotice (n : PendingNotice) (q : List PendingNotice) : List PendingNotice :=
  q.map fun x => if x.cls = n.cls then { n with merged := true } else x

/-- A notice enters the pending set (R179). -/
def State.enterNotice (n : PendingNotice) (s : State) : State :=
  let d := s.dispatcher
  if d.destination n.cls = 0 then s
  else if d.pendingNotices.any (fun x => x.cls == n.cls) then
    s.onDispatcher fun d => { d with pendingNotices := replaceNotice n d.pendingNotices }
  else
    (s.onDispatcher fun d => { d with pendingNotices := d.pendingNotices ++ [n] }).signalReady.arbitrateS

/-- NOTICE_ENTRY: the notice is taken from those under way and enters the pending set (R179). The notices under way enter in the
order in which their commands come, also two of one class, and one that no block handed enters all the same. DESIGN CHOICE (log
entry 53). -/
def execNoticeEntry (n : Notice) (s : State) : Host.Outcome State Fault Refusal :=
  State.event (fun s =>
    { s with notices := s.notices.erase n }.enterNotice (composeNotice s.modes.unwindRecord n)) s

/-! ### LINK requests -/

/-- SET_NOTICES (R181). -/
def execSetNotices (h : ReqHead) (a : Option SetNoticesArgs) (s : State) : Host.Outcome State Fault Refusal :=
  s.atOnce (.setNotices h a) h unitLink fun s =>
    match a with
    | none => refuse .badArg s
    | some x =>
      if noticesOk x then
        accept (s.onDispatcher fun d => { d with destinations := x.destinations, fold := x.fold })
      else refuse .badArg s

/-- The status of a refused SET_LINK (R182). -/
def State.setLinkRefused (s : State) (x : SetLinkArgs) : Option Status :=
  if !linkRangesOk x then some .badArg
  else if s.modes.mode ≠ .off ∧ x.typeValue ≠ s.line.typeValue then some .badMode
  else none

/-- SET_LINK taken: the type value and the tagging switch at once, the node address when the reply has been placed
(R182, R25). The reply, and every telegram built from then on, carries the new type value, R182 and R26 speaking of received
frames alone. DESIGN CHOICE (log entry 38). -/
def State.setLink (h : ReqHead) (x : SetLinkArgs) (s : State) : State :=
  (s.onLine fun l => { l with typeValue := x.typeValue, tagging := x.tagging }).placeReply
    ⟨h, replyBody h unitLink .ok [], false, some x.node⟩

/-- SET_LINK (R182). -/
def execSetLink (h : ReqHead) (a : Option SetLinkArgs) (s : State) : Host.Outcome State Fault Refusal :=
  s.handed (.setLink h a) h unitLink fun s =>
    match a with
    | none => s.answer h unitLink .badArg []
    | some x =>
      match s.setLinkRefused x with
      | some st => s.answer h unitLink st []
      | none => s.setLink h x

/-- What READ_LINK gives of one port: paused, and the pause asserted flag of the queue it feeds (R183). Set is 0 and clear 1.
DESIGN CHOICE (log entry 49). -/
def LinePath.portResult (l : LinePath) (p : Port) : List Byte :=
  encFlag (l.port p).paused.isSome ++ encFlag (l.asserted p)

/-- The merged flag of a class's pending notice, absent when none is pending (R183): an optional field for each class. DESIGN
CHOICE (log entry 37). -/
def Dispatcher.classResult (d : Dispatcher) (cls : Nat) : List Byte :=
  encOption (fun n : PendingNotice => u8 (if n.merged then 1 else 0))
    (d.pendingNotices.find? (fun n => n.cls == cls))

/-- The result of READ_LINK (R183). -/
def State.linkResult (s : State) : List Byte :=
  let l := s.line
  let d := s.dispatcher
  u16 l.node ++ u16 l.typeValue ++ encFlag l.tagging ++ u48 Config.stationAddress ++ u16 l.s2f.length ++
    u16 l.f2s.length ++ u16 l.injections.length ++ u16 l.inbox.length ++ u16 l.replies.length ++
    l.portResult .sPort ++ l.portResult .fPort ++ (d.destinations.map u16).flatten ++ u16 d.fold ++
    d.classResult 0 ++ d.classResult 1 ++ d.classResult 2 ++ d.classResult 3 ++ u16 d.held.length ++
    encFlag d.plannerLate.isSome ++ encFlag d.imageLate.isSome ++ u32 s.now

/-- READ_LINK (R183). -/
def execReadLink (h : ReqHead) (a : Option Unit) (s : State) : Host.Outcome State Fault Refusal :=
  s.atOnce (.readLink h a) h unitLink (readOnly a State.linkResult)

end Sys2Proof.Machine
end

