-- ==== Sys2Proof/Machine/StartUp.lean ====
section
/-! DEFINITION. Start-up, configuration image and restart (section 12): the image and its content check (R185, R186), reset
and start-up (R187), the save (R188, R189), IDENTIFY (R191), RESTART and the restart values of every block (R190 and the
rules it gathers). -/

namespace Sys2Proof.Config

open Sys2Proof.Machine

/-- The bytes of an image's content ahead of the bank (R185, R188 step 4). The manual gives no layout. FREE (log entry 8). -/
opaque contentBytes : Image → List Byte

/-- The bytes of the bank in an image: its Offset Table and Sector Table (R185, R188 step 4). FREE (log entry 8). -/
opaque bankBytes : Bank → List Byte

/-- The content that stands in the memory after a save of an image was cut off or failed, over what stood there: neither old
nor new (R187). FREE (log entry 8). -/
opaque tornContent : Option ImageBlock → Image → Image

/-- The bits that stand where the CRC is stored after such a save, but for a match (R187). FREE (log entry 8). -/
opaque tornCrc : Option ImageBlock → Image → BitVec 32

end Sys2Proof.Config

namespace Sys2Proof.Machine

/-! ### The image -/

/-- The bytes of an image ahead of its CRC, the bank behind the other content (R185, R188 step 4). -/
def ImageBlock.bytes (b : ImageBlock) : List Byte :=
  b.mark ++ b.format ++ Config.contentBytes { b.content with bank := .zeroed } ++ Config.bankBytes b.content.bank

/-- The stored CRC is the CRC-32 over everything before it (R185). -/
def ImageBlock.crcOk (b : ImageBlock) : Bool := b.crc == crc32 b.bytes

/-- The image a save writes (R188 step 4). -/
def writtenBlock (i : Image) : ImageBlock :=
  let b : ImageBlock := ⟨Config.imageMark, Config.imageFormat, i, 0#32⟩
  { b with crc := crc32 b.bytes }

/-- A CRC that is not the one given: the bits that stand there, or, where these match, their complement. -/
def mismatched (crc torn : BitVec 32) : BitVec 32 := if torn = crc then ~~~ torn else torn

/-- What a save of `i` that was cut off or failed leaves over what stood there: a CRC that does not match (R187, R188).
DESIGN CHOICE (log entry 8). -/
def tornBlock (old : Option ImageBlock) (i : Image) : ImageBlock :=
  let b : ImageBlock := ⟨Config.imageMark, Config.imageFormat, Config.tornContent old i, 0#32⟩
  { b with crc := mismatched (crc32 b.bytes) (Config.tornCrc old i) }

/-- The content a save takes from the state as it stands (R185, R188 step 3). -/
def State.imageContent (s : State) : Image :=
  { node := s.line.node, typeValue := s.line.typeValue, tagging := s.line.tagging, statics := s.fleet.statics,
    rows := s.fleet.rows, wind := s.wind.params, bank := s.tables.activeBank, valid := s.tables.valid,
    plan := s.planner.params, budgets := s.gate.budgets, urgentBudget := s.gate.urgentBudget,
    trims := s.monitor.trims, theta := s.monitor.theta, tau := s.monitor.tau, learning := s.monitor.learning,
    storm := s.modes.storm.config, gridhold := s.modes.gridhold.config, destinations := s.dispatcher.destinations,
    fold := s.dispatcher.fold }

/-- The Wind Estimator parameters are ones its requests accept (R61-R63). -/
def windParamsOk (p : WindParams) : Bool :=
  windRangesOk ⟨p.alpha, p.beta, p.outlierLimit, p.wRef, p.wStale, p.dwell, p.hysteresis⟩ &&
    bandsOk ⟨p.thresholds, p.hs⟩ && sectorCountOk p.sectors

/-- Every parameter lies in the range its request would accept (R186). -/
def Image.parametersOk (i : Image) : Bool :=
  linkRangesOk ⟨i.node, i.typeValue, i.tagging⟩ && windParamsOk i.wind && planRangesOk i.plan &&
    budgetsOk ⟨i.budgets, i.urgentBudget⟩ && arrivalRangesOk ⟨i.theta, i.tau, i.learning⟩ &&
    noticesOk ⟨i.destinations, i.fold⟩

/-- The turbine records: indices in range, addresses and corrections in range, no address twice (R186). -/
def staticsOk (t : Table TurbineStatic) : Bool :=
  t.cells.all (fun c => decide (c.1 < Config.turbines) && (c.2.address.map (within 1 65534)).getD false &&
    correctionOk c.2.offset c.2.gain) && distinct (t.cells.map fun c => c.2.address.getD 0)

/-- One row record: at most 32 populated members, none twice, the arrival reference a member (R186). -/
def rowOk (t : Table TurbineStatic) (r : Row) : Bool :=
  decide (r.members.length ≤ Config.rowMembers) && r.members.all (fun m => (t.get .unpopulated m).address.isSome) &&
    distinct r.members && (match r.arrivalRef with | none => true | some x => r.members.contains x)

/-- The row records, with no turbine in two rows (R186). -/
def rowsOk (t : Table TurbineStatic) (rows : Table Row) : Bool :=
  rows.cells.all (fun c => decide (c.1 < Config.rows) && rowOk t c.2) &&
    distinct (rows.cells.map fun c => c.2.members).flatten

/-- A sector record is empty, or 1..16 row indices with a spacing of 100..3000 for each adjacent pair (R186). -/
def sectorContentOk (x : SectorRecord) : Bool :=
  (x.order.isEmpty && x.spacings.isEmpty) ||
    (within 1 16 x.order.length && x.order.all (fun r => decide (r < Config.rows)) &&
      x.spacings.length + 1 == x.order.length && x.spacings.all (within 100 3000))

/-- The bank's entries and sector records (R186). -/
def Bank.contentOk (k : Bank) : Bool :=
  k.offsets.cells.all (fun c => decide (c.1 < 73728) && withinInt (-300) 300 c.2) &&
    k.sectors.cells.all (fun c => decide (c.1 < Config.sectorSlots) && sectorContentOk c.2)

/-- The tables stand in their canonical form, as every content of the memory does in this model. -/
def Image.canonical (i : Image) : Bool :=
  i.statics.wf .unpopulated && i.rows.wf .empty && i.bank.offsets.wf 0 && i.bank.sectors.wf .zeroed && i.trims.wf 64

/-- The content check (R186). -/
def Image.contentOk (i : Image) : Bool :=
  i.parametersOk && staticsOk i.statics && rowsOk i.statics i.rows && i.bank.contentOk &&
    i.trims.cells.all (fun c => decide (c.1 < Config.sectorSlots) && within 32 128 c.2) && i.canonical

/-- The judgement of the image that stands in the memory, case by case (R186). -/
def ImageBlock.judge (b : ImageBlock) : ImageState :=
  if b.mark ≠ Config.imageMark then .absent
  else if b.format ≠ Config.imageFormat then .corrupt
  else if !b.crcOk then .corrupt
  else if !b.content.contentOk then .corrupt
  else .valid

/-- The judgement of the configuration memory, and the image to load when it is VALID (R186). -/
def judgeMemory (answers : Bool) (m : Option ImageBlock) : ImageState × Option Image :=
  match answers, m with
  | true, some b => (b.judge, if b.judge = .valid then some b.content else none)
  | true, none | false, _ => (.absent, none)

/-! ### Reset and start-up -/

/-- The configuration memory after reset is asserted: a save that was running leaves a CRC that does not match (R187). -/
def ImageLoader.memoryAfterReset (x : ImageLoader) : Option ImageBlock :=
  match x.save with
  | some i => some (tornBlock x.memory i)
  | none => x.memory

/-- The part while reset is asserted (R187). DESIGN CHOICE (log entry 23). -/
def State.inReset (s : State) : State :=
  { State.reset with
    powered := false, image := { ImageLoader.factory with memory := s.image.memoryAfterReset }, pending := s.pending }

/-- RESET_ASSERTION (R187). -/
def execResetAssertion (s : State) : Host.Outcome State Fault Refusal := .next s.inReset

/-- Every block takes what the image holds for it (R185, R187 step 3; R20, R40, R65, R109, R131, R158, R174, R184). -/
def State.loadImage (i : Image) (s : State) : State :=
  { s with
    line := { s.line with node := i.node, typeValue := i.typeValue, tagging := i.tagging }
    fleet := { s.fleet with statics := i.statics, rows := i.rows }
    wind := { s.wind with params := i.wind }
    planner := { s.planner with params := i.plan }
    gate := { s.gate with budgets := i.budgets, urgentBudget := i.urgentBudget }
    monitor := { s.monitor with trims := i.trims, theta := i.theta, tau := i.tau, learning := i.learning }
    modes := { s.modes with storm := { s.modes.storm with config := i.storm },
                            gridhold := { s.modes.gridhold with config := i.gridhold } }
    dispatcher := { s.dispatcher with destinations := i.destinations, fold := i.fold } }

/-- The Table Store loads bank A, validates it and starts the refill of bank B (R85, R187 step 4). Bank B is all zeros until the
refill completes. DESIGN CHOICE (log entry 40). -/
def State.loadBank (i : Image) (s : State) : State :=
  s.onTables fun t => { t with bankA := i.bank, active := .a, valid := (s.validate i.bank).isNone, refill := some ⟨none⟩ }

/-- The lines are sampled, and a GRIDHOLD found ACTIVE is reported to the Release Gate, which sets its line hold before the
ports take frames (R174, R187 step 5). -/
def State.sampleLines (storm gridhold : Level) (s : State) : State :=
  let s := s.onModes fun m => { m with storm := .afresh m.storm.config storm,
                                       gridhold := .afresh m.gridhold.config gridhold }
  if s.modes.gridhold.isActive then s.setLineHold true else s

/-- Start-up (R187). -/
def State.startUp (answers : Bool) (storm gridhold : Level) (s : State) : State :=
  let found := judgeMemory answers s.image.memory
  let base : State := { State.reset with
    image := { ImageLoader.factory with
      state := found.1, savedValid := found.2.map (·.valid), memory := s.image.memory }
    pending := s.pending }
  let loaded := match found.2 with
    | some i => (base.loadImage i).loadBank i
    | none => base
  loaded.sampleLines storm gridhold

/-- START_UP: the release of reset (R187). -/
def execStartUp (memoryAnswers : Bool) (storm gridhold : Level) (s : State) : Host.Outcome State Fault Refusal :=
  .next (if s.powered then s else s.startUp memoryAnswers storm gridhold)

/-! ### The save -/

/-- The start of a save (R188) and the marks of a late request (R177). DEDUCED (log entry 28). -/
def State.startSave (h : ReqHead) (s : State) : State :=
  ((s.onImage fun i => { i with save := some s.imageContent }).reportCondition .saveInProgress).onDispatcher fun d =>
    { d with imageLate := some h }

/-- SAVE_IMAGE (R188): a save is started and the request answered late, or BUSY while a save runs. -/
def execSaveImage (h : ReqHead) (a : Option Unit) (s : State) : Host.Outcome State Fault Refusal :=
  s.handed (.saveImage h a) h unitImage fun s =>
    match a with
    | none => s.answer h unitImage .badArg []
    | some _ => if s.image.save.isSome then s.answer h unitImage .busy [] else s.startSave h

/-- The Image Loader at the end of the save of `i` (R188). -/
def ImageLoader.endSave (i : Image) (o : SaveOutcome) (second : Nat) (x : ImageLoader) : ImageLoader :=
  match o with
  | .writtenAndReadBack =>
    { state := .valid, savedValid := some i.valid, save := none, lastSave := some (true, second),
      memory := some (writtenBlock i) }
  | .noAnswer => { x with save := none, lastSave := some (false, second) }
  | .writeFailed =>
    { state := .corrupt, savedValid := none, save := none, lastSave := some (false, second),
      memory := some (tornBlock x.memory i) }

/-- The answer to SAVE_IMAGE (R188). -/
def saveAnswer (i : Image) (second : Nat) : SaveOutcome → Status × List Byte
  | .writtenAndReadBack => (.ok, encFlag i.valid ++ u32 second)
  | .noAnswer | .writeFailed => (.writeFailed, [])

/-- The end of the save in progress (R188); nothing happens without one. -/
def State.saveEnded (o : SaveOutcome) (s : State) : State :=
  match s.image.save with
  | none => s
  | some i =>
    let a := saveAnswer i s.now o
    ((s.onImage (ImageLoader.endSave i o s.now)).report (.swapConditionReport (.saveInProgress false))).lateAnswer
      unitImage a.1 a.2

/-- SAVE_END (R188). -/
def execSaveEnd (o : SaveOutcome) (s : State) : Host.Outcome State Fault Refusal :=
  State.event (State.saveEnded o) s

/-- The image state (section 12). -/
def encImageState : ImageState → List Byte
  | .valid => u8 0 | .absent => u8 1 | .corrupt => u8 2

/-- The result of READ_IMAGE_STATE (R189). The last save's outcome is 0 or 1, by section 12's order. DESIGN CHOICE (log entry
47). -/
def State.imageStateResult (s : State) : List Byte :=
  encImageState s.image.state ++ encOption encFlag s.image.savedValid ++
    encOption (fun x : Bool × Nat => encFlag x.1 ++ u32 x.2) s.image.lastSave ++ u32 s.now

/-- READ_IMAGE_STATE (R189). -/
def execReadImageState (h : ReqHead) (a : Option Unit) (s : State) : Host.Outcome State Fault Refusal :=
  s.atOnce (.readImageState h a) h unitImage fun s =>
    match a with
    | none => refuse .badArg s
    | some _ => if s.image.save.isSome then refuse .busy s else (s, .ok, s.imageStateResult)

/-! ### Identification and restart -/

/-- The capability record (R191). -/
def State.capabilityRecord (s : State) : List Byte :=
  u16 0x5A4B ++ u16 416 ++ u16 3 ++ u16 256 ++ u16 16 ++ u16 32 ++ encList u16 [12, 24, 36] ++ u16 8 ++ u16 32 ++
    u16 1024 ++ encImageState s.image.state

/-- IDENTIFY (R191). -/
def execIdentify (h : ReqHead) (a : Option Unit) (s : State) : Host.Outcome State Fault Refusal :=
  s.atOnce (.identify h a) h unitInfo (readOnly a State.capabilityRecord)

/-- RESTART taken: no further request is taken, and the reply goes to the S-port (R190, R176). -/
def State.takeRestart (h : ReqHead) (s : State) : State :=
  (s.onDispatcher fun d => { d with restartTaken := true }).placeReply ⟨h, replyBody h unitInfo .ok [], true, none⟩

/-- RESTART (R190). -/
def execRestart (h : ReqHead) (a : Option Unit) (s : State) : Host.Outcome State Fault Refusal :=
  s.handed (.restart h a) h unitInfo fun s =>
    match a with
    | none => s.answer h unitInfo .badArg []
    | some _ => s.takeRestart h

/-- The Line Path's restart values (R40): a transmission in progress at the F-port completes. -/
def LinePath.restart (l : LinePath) : LinePath :=
  { LinePath.factory with
    fPort := { PortState.idle with transmission := l.fPort.transmission },
    node := l.node, typeValue := l.typeValue, tagging := l.tagging }

/-- The Release Gate's restart values (R132). -/
def Gate.restart (second : Nat) (g : Gate) : Gate :=
  { g.cancelEverything .restart second with
    installed := none
    last := (g.installed.map fun p => { p with state := PlanState.aborted }).or g.last
    steered := none, requestHold := false, lineHold := false, modeIn := .off, scanDue := false }

/-- The Mode Controller's restart values (R174): the lines are sampled afresh at their recorded levels. DEDUCED (log entry
22). -/
def ModeController.restart (second : Nat) (m : ModeController) : ModeController :=
  { mode := .off, storm := .afresh m.storm.config m.storm.level, gridhold := .afresh m.gridhold.config m.gridhold.level,
    latest := ⟨.restart, second, m.mode, .off⟩,
    unwindRecord := m.unwindRecord.map fun r => if r.outcome = .inProgress then breakOffUnwind second r else r,
    steering := false }

/-- The Dispatcher's restart values (R184). -/
def Dispatcher.restart (d : Dispatcher) : Dispatcher :=
  { Dispatcher.factory with destinations := d.destinations, fold := d.fold }

/-- The reports that outlive a restart: those of a save, which runs on (R85, R188). -/
def outlivesRestart : Instr → Bool
  | .swapConditionReport (.saveInProgress _) => true
  | _ => false

/-- The reports after a restart: those of a save, the withdrawal of a pending commit (R100), and an ACTIVE GRIDHOLD (R174).
DESIGN CHOICE (log entry 21). -/
def State.reportsAfterRestart (s : State) : List Instr :=
  s.reports.filter outlivesRestart ++ (if s.tables.commitPending then [.commitStateReport false] else []) ++
    (if (s.modes.restart s.now).gridhold.isActive then [.gridholdReport true] else [])

/-- Every block takes its restart values (R190: R20, R40, R65, R85, R109, R132, R145, R158, R174, R184). -/
def State.applyRestart (s : State) : State :=
  { s with
    line := s.line.restart
    fleet := { s.fleet with dynamics := ⟨[]⟩ }
    wind := { Wind.factory with params := s.wind.params }
    tables := { s.tables with commitPending := false, planInstalled := false, plannerBuilding := false }
    planner := { Planner.factory with params := s.planner.params }
    gate := s.gate.restart s.now
    upkeep := .factory
    monitor := { Monitor.factory with
      trims := s.monitor.trims, theta := s.monitor.theta, tau := s.monitor.tau, learning := s.monitor.learning }
    modes := s.modes.restart s.now
    dispatcher := s.dispatcher.restart
    reports := s.reportsAfterRestart
    notices := [] }

end Sys2Proof.Machine
end

