-- ==== Sys2Proof/Machine/Line.lean ====
section
/-! DEFINITION. The ingress side of the Line Path (section 3): reception, recognition and classification (R21-R24), the
queue-full test (R27), the request inbox (R28), the taking of a sample (R7-R9), tagging and stripping (R35, R36), received
pauses (R34), the end of a transmission (R31, R32) and the mode report (R39). -/

namespace Sys2Proof.Machine

/-! ### Joining a queue -/

/-- The forward queue fed by a port is full (R27). -/
def LinePath.forwardFull (l : LinePath) (p : Port) : Bool := decide (Config.forwardCapacity ≤ (l.forward p).length)

/-- A frame joins the tail of the forward queue fed by `p` (R27), which may assert a pause (R33) and start the other port's
transmitter (R31, R32). -/
def State.joinForward (p : Port) (f : Frame) (s : State) : State :=
  ((s.onLine fun l => l.setForward p (l.forward p ++ [f])).forwardArrived p).arbitrate (otherPort p)

/-- A frame forwarded unchanged, or dropped at a full queue (R27). -/
def State.forwardFrame (p : Port) (f : Frame) (s : State) : State :=
  if s.line.forwardFull p then s else s.joinForward p f

/-- A request offered to the inbox, or discarded at a full one (R28). -/
def State.offerRequest (r : Request) : State → State :=
  State.onLine fun l => if l.inbox.length < Config.inboxCapacity then { l with inbox := l.inbox ++ [r] } else l

/-! ### BIAS telegrams -/

/-- A telegram without its tag, the tagged and dry flags cleared (R35, R36). -/
def Telegram.strip (t : Telegram) : Telegram := { t with flags := withFlags t.flags false false, tag := none }

/-- A BIAS telegram that R23 classifies as one: body length 3, origin code 0 or 1. -/
def Telegram.isBias (t : Telegram) : Bool :=
  t.kind == kindBias && t.body.length == 3 && decide (byteAt t.body 2 ≤ 1)

/-- The frame a BIAS telegram goes on as (R36): as received when neither stripped nor rewritten, and rebuilt otherwise.
DEDUCED (log entry 16). -/
def biasForward (f : Frame) (t : Telegram) (bias : Option Int) : Frame :=
  match bias with
  | some b => rebuildFrame f { t.strip with body := i16 b ++ t.body.drop 2 }
  | none => if t.strip = t then f else rebuildFrame f t.strip

/-- A BIAS telegram received at the S-port (R23, R36). -/
def State.receiveBias (f : Frame) (t : Telegram) (s : State) : State :=
  if s.line.forwardFull .sPort then s
  else match s.fleet.turbineAt t.dest with
    | none => s.joinForward .sPort (biasForward f t none)
    | some i =>
      let s := s.handBias i (signed16 (fieldAt t.body 0)) (byteAt t.body 2 == 0)
      s.joinForward .sPort (biasForward f t (s.returnedBias i))

/-! ### Samples -/

/-- What the Wind Estimator receives of a used sample (R9, R41). -/
def State.referenceArrival (i : Nat) (x : Sample) (s : State) : ReferenceArrival :=
  ⟨i, s.now, x.usableDirection, x.usableSpeed, (s.fleet.static i).offset, (s.fleet.static i).gain⟩

/-- The Wind Estimator is handed a used sample of a reference turbine (R9, step 1). -/
def State.handReference (i : Nat) (x : Sample) (s : State) : State :=
  if (s.fleet.static i).reference then s.takeReference (s.referenceArrival i x) else s

/-- The Arrival Monitor is handed a used sample of an arrival reference (R9, step 2). -/
def State.handArrival (i : Nat) (x : Sample) (s : State) : State :=
  match s.fleet.referenceRow i with
  | some r => s.onMonitor (Monitor.arrival r x.power s.now)
  | none => s

/-- The Release Gate is handed a used sample whose yaw fields are usable (R9, step 3). -/
def State.handYaw (i : Nat) (x : Sample) (s : State) : State :=
  match x.usableYaw with
  | some (y, a) => s.segmentSampled i y a
  | none => s

/-- The Fleet Table is handed a sample of turbine `i` (R7-R9): a repeat changes nothing. DEDUCED (log entry 15). -/
def State.intake (i : Nat) (x : Sample) (s : State) : State :=
  if (s.fleet.dynamic i).uses x then (((s.recordSample i x).handReference i x).handArrival i x).handYaw i x else s

/-- The steering tag of a turbine (R35, Table 3-3). -/
def State.steeringTag (s : State) (i : Nat) : List Byte :=
  u16 ((s.gate.installed.map (·.number)).getD 0) ++ i16 (s.commandedBias i) ++ u8 (s.gate.moveCode i) ++
    encMode s.line.modeIn ++ encAvailability (s.fleet.dynamic i).availability ++ u8 s.gate.planCode

/-- The frame a sample of a known turbine goes on as (R35): tagged, or untagged and unaltered where nothing was removed.
DEDUCED (log entry 16). -/
def State.sampleForward (s : State) (i : Nat) (f : Frame) (t : Telegram) : Frame :=
  if s.line.tagging ∧ s.line.modeIn ≠ .off then
    rebuildFrame f { t with
      flags := withFlags t.flags true (s.line.modeIn == .dry), tag := some (s.steeringTag i) }
  else if t.strip = t then f else rebuildFrame f t.strip

/-- A SAMPLE of turbine `i` received at the F-port (R24, R27). -/
def State.receiveSample (i : Nat) (f : Frame) (t : Telegram) (s : State) : State :=
  if s.line.forwardFull .fPort then s
  else
    let s := s.intake i (sampleOf t.body)
    s.joinForward .fPort (s.sampleForward i f t)

/-! ### Classification -/

/-- A good park telegram received at the S-port (R23). -/
def State.classifyS (f : Frame) (t : Telegram) (s : State) : State :=
  if t.kind = kindMreq ∧ t.dest = s.line.node then s.offerRequest (requestOf f t)
  else if t.isBias then s.receiveBias f t
  else s.forwardFrame .sPort f

/-- A good park telegram received at the F-port (R24). -/
def State.classifyF (f : Frame) (t : Telegram) (s : State) : State :=
  if t.kind = kindMreq ∧ t.dest = s.line.node then s
  else if t.kind = kindSample ∧ t.body.length = 11 then
    match s.fleet.turbineAt t.source with
    | some i => s.receiveSample i f t
    | none => s.forwardFrame .fPort f
  else s.forwardFrame .fPort f

/-- A good park telegram at a port. -/
def State.classify : Port → Frame → Telegram → State → State
  | .sPort => State.classifyS
  | .fPort => State.classifyF

/-! ### Received pauses -/

/-- The end of a received pause: the port's arbiter acts, and at the S-port the Dispatcher may be signalled (R34, R29).
DEDUCED (log entry 19). -/
def State.endPause (p : Port) (s : State) : State :=
  let s := (s.onLine fun l => l.setPort p { l.port p with paused := none }).arbitrate p
  match p with
  | .sPort => s.signalReady.arbitrateS
  | .fPort => s

/-- A PAUSE received at a port (R34). -/
def State.pauseReceived (p : Port) (quanta : Nat) (s : State) : State :=
  if 0 < quanta then s.onLine fun l => l.setPort p { l.port p with paused := some quanta }
  else if (s.line.port p).paused.isSome then s.endPause p
  else s

/-- PAUSE_EXPIRY (R34). -/
def execPauseExpiry (p : Port) (s : State) : Host.Outcome State Fault Refusal :=
  State.event (fun s => if (s.line.port p).paused.isSome then s.endPause p else s) s

/-! ### Reception -/

/-- A frame with a good FCS and length (R21, R22). The opcode of a MAC control frame is read at bytes 14 and 15 and the pause
time at bytes 16 and 17, places the manual does not give. PRESUMED (log entry 44). -/
def State.receiveGood (p : Port) (f : Frame) (s : State) : State :=
  if fieldAt f 12 = 0x8808 then
    if fieldAt f 14 = 1 then s.pauseReceived p (fieldAt f 16) else s
  else if fieldAt f 12 = s.line.typeValue then
    match parseTelegram f with
    | some t => s.classify p f t
    | none => s.forwardFrame p f
  else s.forwardFrame p f

/-- FRAME_RECEPTION (R21). -/
def execFrameReception (p : Port) (f : Frame) (s : State) : Host.Outcome State Fault Refusal :=
  State.event (fun s => if frameIsGood f then s.receiveGood p f else s) s

/-! ### Transmission and mode -/

/-- The end of a transmission (R31, R32): the block restart values are applied at the end of the RESTART reply (R190), and
the port's arbiter acts. -/
def State.transmissionEnded (p : Port) (t : Transmission) (s : State) : State :=
  let s := s.onLine fun l => l.setPort p { l.port p with transmission := none }
  (if t.restartReply then s.applyRestart else s).arbitrate p

/-- TRANSMISSION_END (R31). -/
def execTransmissionEnd (p : Port) (s : State) : Host.Outcome State Fault Refusal :=
  State.event (fun s => match (s.line.port p).transmission with
    | some t => s.transmissionEnded p t
    | none => s) s

/-- The purge of the injection queue: every entry leaves unsent, each one a room event (R30, R39). -/
def State.purgeInjections (s : State) : State :=
  let n := s.line.injections.length
  if n = 0 then s
  else
    let s := (s.onLine fun l => { l with injections := [] }).onGate fun g => { g with scanDue := true }
    { s with reports := s.reports ++ List.replicate n .roomEvent }

/-- The Line Path takes a mode report (R39). -/
def State.linePathMode (m : Mode) (s : State) : State :=
  let s := s.onLine fun l => { l with modeIn := m }
  if m = .off then s.purgeInjections else s

/-- LINE_PATH_MODE_CHANGE (R39). -/
def execLinePathModeChange (m : Mode) (s : State) : Host.Outcome State Fault Refusal :=
  State.reported (.linePathModeChange m) (State.linePathMode m) s

end Sys2Proof.Machine
end

