-- ==== Sys2Proof/Machine/Schedule.lean ====
section
/-! DEFINITION. The part's own next event, which a step takes when no command waits: reports in the order made, a scan that
is due, the request at the head of the inbox, notices in the order made, timers that have run out, transmissions, pauses.
DESIGN CHOICE (log entry 1): the manual fixes no order among them; the queue of commands can take any of them first. -/

namespace Sys2Proof.Machine

/-- A timer has run out. -/
def State.due (s : State) (t : Timer) : Bool := (t.map fun d => decide (d ≤ s.clock)).getD false

/-- The first of some commands. -/
def firstOf : List (Option Instr) → Option Instr
  | [] => none
  | some c :: _ => some c
  | none :: rest => firstOf rest

/-- The request the Dispatcher takes next (R176). -/
def State.dueRequest (s : State) : Option Instr :=
  if s.dispatcher.ready then s.line.inbox.head?.map requestInstr else none

/-- A segment's timer that has run out, by its kind (R123, R124). -/
def State.dueFlight (s : State) : Option Instr :=
  (s.gate.flights.find? fun f => s.due (some f.expires)).map fun f =>
    if f.simulated then .simulatedSettleExpiry f.turbine else .timeoutExpiry f.turbine

/-- A release that plan time has reached (R110). -/
def State.dueRelease (s : State) : Option Instr :=
  match s.gate.nextRelease with
  | some (0, _) => some .waveRelease
  | _ => none

/-- A timer that has run out. -/
def State.dueTimer (s : State) : Option Instr :=
  firstOf
    [(s.fleet.dynamics.cells.find? fun c => s.due c.2.stale).map fun c => .staleExpiry c.1,
     if s.due s.wind.freshness then some .freshnessExpiry else none,
     if s.due s.wind.dwellTimer then some .dwellExpiry else none,
     s.dueRelease,
     s.dueFlight,
     (s.upkeep.refresh.cells.find? fun c => s.due c.2).map fun c => .refreshExpiry c.1,
     (s.monitor.watches.find? fun w => s.due w.window).map fun w => .windowExpiry w.index]

/-- What goes on at a port: its transmission ends, or its received pause runs out. -/
def State.duePort (s : State) (p : Port) : Option Instr :=
  if (s.line.port p).transmission.isSome then some (.transmissionEnd p)
  else if (s.line.port p).paused.isSome then some (.pauseExpiry p)
  else none

/-- The part's own next event, if any is due. DESIGN CHOICE (log entry 33). -/
def State.nextEvent (s : State) : Option Instr :=
  if s.powered then
    firstOf
      [s.reports.head?, if s.gate.scanDue then some .arbiterScan else none, s.dueRequest,
       s.notices.head?.map Instr.noticeEntry, s.dueTimer, s.duePort .sPort, s.duePort .fPort]
  else none

end Sys2Proof.Machine
end

