-- ==== Sys2Proof/Machine/Dispatch.lean ====
section
/-! DEFINITION. `exec`: the meaning of every command, one arm per row of the opcode table. -/

namespace Sys2Proof.Machine

def exec (i : Instr) (s : State) : Host.Outcome State Fault Refusal :=
  match i with
  | .frameReception p frame => Sys2Proof.Machine.execFrameReception p frame s
  | .pauseExpiry p => Sys2Proof.Machine.execPauseExpiry p s
  | .transmissionEnd p => Sys2Proof.Machine.execTransmissionEnd p s
  | .roomEvent => Sys2Proof.Machine.execRoomEvent s
  | .staleExpiry turbine => Sys2Proof.Machine.execStaleExpiry turbine s
  | .referenceSample r => Sys2Proof.Machine.execReferenceSample r s
  | .freshnessExpiry => Sys2Proof.Machine.execFreshnessExpiry s
  | .dwellExpiry => Sys2Proof.Machine.execDwellExpiry s
  | .retargetTrigger pair => Sys2Proof.Machine.execRetargetTrigger pair s
  | .install => Sys2Proof.Machine.execInstall s
  | .previewCompletion => Sys2Proof.Machine.execPreviewCompletion s
  | .waveRelease => Sys2Proof.Machine.execWaveRelease s
  | .arbiterScan => Sys2Proof.Machine.execArbiterScan s
  | .segmentSample turbine yaw achieved => Sys2Proof.Machine.execSegmentSample turbine yaw achieved s
  | .timeoutExpiry turbine => Sys2Proof.Machine.execTimeoutExpiry turbine s
  | .simulatedSettleExpiry turbine => Sys2Proof.Machine.execSimulatedSettleExpiry turbine s
  | .refreshExpiry turbine => Sys2Proof.Machine.execRefreshExpiry turbine s
  | .swapConditionReport r => Sys2Proof.Machine.execSwapConditionReport r s
  | .refillCompletion => Sys2Proof.Machine.execRefillCompletion s
  | .holdReport inEffect => Sys2Proof.Machine.execHoldReport inEffect s
  | .commitStateReport isPending => Sys2Proof.Machine.execCommitStateReport isPending s
  | .installReport info => Sys2Proof.Machine.execInstallReport info s
  | .releaseReport plan wave => Sys2Proof.Machine.execReleaseReport plan wave s
  | .watchArming plan wave => Sys2Proof.Machine.execWatchArming plan wave s
  | .arrivalSample row power time => Sys2Proof.Machine.execArrivalSample row power time s
  | .windowExpiry pairIndex => Sys2Proof.Machine.execWindowExpiry pairIndex s
  | .abortReport plan => Sys2Proof.Machine.execAbortReport plan s
  | .completionReport plan => Sys2Proof.Machine.execCompletionReport plan s
  | .linePathModeChange m => Sys2Proof.Machine.execLinePathModeChange m s
  | .estimatorModeChange m => Sys2Proof.Machine.execEstimatorModeChange m s
  | .plannerModeChange m => Sys2Proof.Machine.execPlannerModeChange m s
  | .unwindEntry => Sys2Proof.Machine.execUnwindEntry s
  | .offEntry => Sys2Proof.Machine.execOffEntry s
  | .upkeepModeChange m => Sys2Proof.Machine.execUpkeepModeChange m s
  | .unwindFigures plan created => Sys2Proof.Machine.execUnwindFigures plan created s
  | .urgentFinishReport o => Sys2Proof.Machine.execUrgentFinishReport o s
  | .unwindEnd => Sys2Proof.Machine.execUnwindEnd s
  | .lineLevelChange l v => Sys2Proof.Machine.execLineLevelChange l v s
  | .gridholdReport isActive => Sys2Proof.Machine.execGridholdReport isActive s
  | .noticeEntry n => Sys2Proof.Machine.execNoticeEntry n s
  | .saveEnd o => Sys2Proof.Machine.execSaveEnd o s
  | .resetAssertion => Sys2Proof.Machine.execResetAssertion s
  | .startUp memoryAnswers storm gridhold => Sys2Proof.Machine.execStartUp memoryAnswers storm gridhold s
  | .unknownRequest r => Sys2Proof.Machine.execUnknownRequest r s
  | .setTurbine h a => Sys2Proof.Machine.execSetTurbine h a s
  | .clearTurbine h a => Sys2Proof.Machine.execClearTurbine h a s
  | .setRow h a => Sys2Proof.Machine.execSetRow h a s
  | .setReference h a => Sys2Proof.Machine.execSetReference h a s
  | .setCorrection h a => Sys2Proof.Machine.execSetCorrection h a s
  | .clearFault h a => Sys2Proof.Machine.execClearFault h a s
  | .readTurbine h a => Sys2Proof.Machine.execReadTurbine h a s
  | .readRow h a => Sys2Proof.Machine.execReadRow h a s
  | .setWindParams h a => Sys2Proof.Machine.execSetWindParams h a s
  | .setBands h a => Sys2Proof.Machine.execSetBands h a s
  | .setSectors h a => Sys2Proof.Machine.execSetSectors h a s
  | .readEstimate h a => Sys2Proof.Machine.execReadEstimate h a s
  | .writeOffsets h a => Sys2Proof.Machine.execWriteOffsets h a s
  | .writeSector h a => Sys2Proof.Machine.execWriteSector h a s
  | .readOffsets h a => Sys2Proof.Machine.execReadOffsets h a s
  | .readSector h a => Sys2Proof.Machine.execReadSector h a s
  | .commit h a => Sys2Proof.Machine.execCommit h a s
  | .cancelCommit h a => Sys2Proof.Machine.execCancelCommit h a s
  | .readTableState h a => Sys2Proof.Machine.execReadTableState h a s
  | .setPlanParams h a => Sys2Proof.Machine.execSetPlanParams h a s
  | .retarget h a => Sys2Proof.Machine.execRetarget h a s
  | .preview h a => Sys2Proof.Machine.execPreview h a s
  | .readPreview h a => Sys2Proof.Machine.execReadPreview h a s
  | .hold h a => Sys2Proof.Machine.execHold h a s
  | .resume h a => Sys2Proof.Machine.execResume h a s
  | .setBudgets h a => Sys2Proof.Machine.execSetBudgets h a s
  | .readPlan h a => Sys2Proof.Machine.execReadPlan h a s
  | .readMoves h a => Sys2Proof.Machine.execReadMoves h a s
  | .enable h a => Sys2Proof.Machine.execEnable h a s
  | .dry h a => Sys2Proof.Machine.execDry h a s
  | .disable h a => Sys2Proof.Machine.execDisable h a s
  | .unwind h a => Sys2Proof.Machine.execUnwind h a s
  | .setLines h a => Sys2Proof.Machine.execSetLines h a s
  | .readMode h a => Sys2Proof.Machine.execReadMode h a s
  | .setArrival h a => Sys2Proof.Machine.execSetArrival h a s
  | .readTrims h a => Sys2Proof.Machine.execReadTrims h a s
  | .writeTrim h a => Sys2Proof.Machine.execWriteTrim h a s
  | .readArrivals h a => Sys2Proof.Machine.execReadArrivals h a s
  | .setLink h a => Sys2Proof.Machine.execSetLink h a s
  | .setNotices h a => Sys2Proof.Machine.execSetNotices h a s
  | .readLink h a => Sys2Proof.Machine.execReadLink h a s
  | .saveImage h a => Sys2Proof.Machine.execSaveImage h a s
  | .readImageState h a => Sys2Proof.Machine.execReadImageState h a s
  | .identify h a => Sys2Proof.Machine.execIdentify h a s
  | .restart h a => Sys2Proof.Machine.execRestart h a s
  | .gateModeChange m => Sys2Proof.Machine.execGateModeChange m s
  | .arrivalMonitorModeChange m => Sys2Proof.Machine.execArrivalMonitorModeChange m s

end Sys2Proof.Machine
end

