-- ==== Sys2Proof/Machine/Step.lean ====
section
/-! DEFINITION. One step: the command at the front of the queue is taken, or, with none waiting, the part's own next event,
or one second passes. -/

namespace Sys2Proof.Machine

/-- One step. DESIGN CHOICE (log entry 1): with no command waiting the part's own next event happens, and with none due one
second passes. -/
def step (s : State) : Host.Outcome State Fault Refusal :=
  match s.pending with
  | c :: rest => exec c { s with pending := rest }
  | [] =>
    match s.nextEvent with
    | some c => exec c s
    | none => .next (if s.powered then s.elapse 1 else s)

/-- The state with the command a word spells at the front of its queue; no word spells one. -/
def State.withFetchWord (s : State) (nbits w : Nat) : State :=
  match decodeTableWord nbits w with
  | some c => { s with pending := c :: s.pending }
  | none => s

end Sys2Proof.Machine
end

