-- ==== Sys2Proof/Safety.lean ====
section
/-! DEFINITION. The terms the statements use: when a request is handed to its unit, what an answer is, what the egress side
alone can change, and the invariants of a safe run. -/

namespace Sys2Proof.Machine

/-- The request `c` of head `h` passes the envelope and is handed to unit `u`; `s0` is the state as the unit finds it, the
request gone from the inbox (R175, R176). DESIGN CHOICE (log entry 12). -/
def State.handsOver (s : State) (c : Instr) (h : ReqHead) (u : Nat) (s0 : State) : Prop :=
  s.takeRequest c = some s0 ∧ h.transaction ≠ 255#8 ∧ s0.dispatcher.unitBusy u = false

/-- The command is answered with a status and a result, `u` being the state its effect leaves. -/
def answers (c : Instr) (s : State) (h : ReqHead) (unitCode : Nat) (st : Status) (result : List Byte) (u : State) : Prop :=
  exec c s = .next (u.answer h unitCode st result)

/-- Only the egress side differs: the Line Path, the Dispatcher's waiting replies and notices, the room events, and the
cause for a scan that a room event is. -/
def onlyEgress (s t : State) : Prop :=
  t = { s with line := t.line, reports := t.reports, gate := { s.gate with scanDue := t.gate.scanDue },
               dispatcher := { s.dispatcher with held := t.dispatcher.held,
                                                 pendingNotices := t.dispatcher.pendingNotices } }

/-- A sector record passes the validation of R75 against the farm: a row order that is not empty and names every populated
row once and no other row, and a spacing of 100..3000 for each adjacent pair. -/
def sectorValid (s : State) (x : SectorRecord) : Prop :=
  x.order ≠ [] ∧ x.order.Nodup ∧ (∀ r, r ∈ x.order ↔ r < 16 ∧ (s.fleet.row r).members ≠ []) ∧
    x.spacings.length + 1 = x.order.length ∧ ∀ y ∈ x.spacings, 100 ≤ y ∧ y ≤ 3000

/-- The mode input or mode is one of the two in which plans are built. -/
def inSteering (m : Mode) : Prop := m = .live ∨ m = .dry

/-- The mode input or mode is one of the two in which telegrams are sent for the steering components. -/
def inSending (m : Mode) : Prop := m = .live ∨ m = .unwind

/-- The six reports of a change of mode (R160), `gate` being the one the Release Gate takes. -/
def sixReports (m : Mode) (gate : Instr) : List Instr :=
  [.linePathModeChange m, .estimatorModeChange m, .plannerModeChange m, gate, .upkeepModeChange m,
   .arrivalMonitorModeChange m]

/-! ### What a port sends -/

/-- The head `f` of the forward queue fed by port `p` leaves by the other port, the frames `fs` staying (R31, R32). Where that
brings the depth to 16 with the pause asserted, the flag is cleared and a PAUSE of 0 comes to wait at `p`, in place of one
not yet sent (R33); behind an idle transmitter it is sent at once. DEDUCED (log entry 19). -/
def forwardLeaves (p : Port) (f : Frame) (fs : List Frame) (s t : State) : Prop :=
  t.line.forward p = fs ∧
  t.line.port (otherPort p) = { s.line.port (otherPort p) with transmission := some ⟨f, false⟩, ownLast := false } ∧
  (if s.line.asserted p = true ∧ fs.length = 16 then
    t.line.asserted p = false ∧
    ((s.line.port p).transmission = none → t.line.port p =
      { s.line.port p with transmission := some ⟨pauseFrame 0, false⟩, waitingPause := none }) ∧
    ((s.line.port p).transmission ≠ none → t.line.port p = { s.line.port p with waitingPause := some 0 })
  else t.line.asserted p = s.line.asserted p ∧ t.line.port p = s.line.port p) ∧
  t.line.forward (otherPort p) = s.line.forward (otherPort p) ∧
  t.line.asserted (otherPort p) = s.line.asserted (otherPort p) ∧
  t = { s with line := { t.line with
    injections := s.line.injections, inbox := s.line.inbox, replies := s.line.replies, sequence := s.line.sequence
    modeIn := s.line.modeIn, node := s.line.node, typeValue := s.line.typeValue, tagging := s.line.tagging } }

/-- The frame `f` joins the forward queue fed by port `p` (R27). At depth 40 with the pause asserted flag clear the flag is set,
and there, and at 40 or more with it set, a PAUSE of 65535 comes to wait at `p` in place of one not yet sent (R33); behind an
idle transmitter it is sent at once. DEDUCED (log entry 19). -/
def forwardJoins (p : Port) (f : Frame) (s t : State) : Prop :=
  ∀ (depth : Nat) (asserts : Prop), depth = (s.line.forward p).length + 1 →
    (asserts ↔ (s.line.asserted p = true ∧ 40 ≤ depth ∨ s.line.asserted p = false ∧ depth = 40)) →
    t.line.forward p = s.line.forward p ++ [f] ∧
    (t.line.asserted p = true ↔ s.line.asserted p = true ∨ depth = 40) ∧
    (asserts → (s.line.port p).transmission = none → t.line.port p =
      { s.line.port p with transmission := some ⟨pauseFrame 65535, false⟩, waitingPause := none }) ∧
    (asserts → (s.line.port p).transmission ≠ none →
      t.line.port p = { s.line.port p with waitingPause := some 65535 }) ∧
    (¬ asserts → t.line.port p = s.line.port p) ∧
    t.line.port (otherPort p) = s.line.port (otherPort p) ∧
    t.line.forward (otherPort p) = s.line.forward (otherPort p) ∧
    t.line.asserted (otherPort p) = s.line.asserted (otherPort p) ∧
    t = { s with line := { t.line with
      injections := s.line.injections, inbox := s.line.inbox, replies := s.line.replies, sequence := s.line.sequence
      modeIn := s.line.modeIn, node := s.line.node, typeValue := s.line.typeValue, tagging := s.line.tagging } }

/-- The arbiter of the F-port, whose transmitter is free in `s`, has acted (R31): a waiting PAUSE goes first, paused or not; a
paused port sends nothing else; of the forward queue and the injection queue, the one that did not send last has the turn
when both hold a frame. A departure from the injection queue is a room event and a cause for a scan (R30, R117). -/
def fPortActs (s t : State) : Prop :=
  (∀ q, s.line.fPort.waitingPause = some q → t = { s with line := { s.line with fPort :=
    { s.line.fPort with transmission := some ⟨pauseFrame q, false⟩, waitingPause := none } } }) ∧
  (s.line.fPort.waitingPause = none →
    (s.line.fPort.paused ≠ none → t = s) ∧
    (s.line.fPort.paused = none →
      (s.line.s2f = [] → s.line.injections = [] → t = s) ∧
      (∀ f fs, s.line.s2f = f :: fs → (s.line.injections = [] ∨ s.line.fPort.ownLast = true) →
        forwardLeaves .sPort f fs s t) ∧
      (∀ e es, s.line.injections = e :: es → (s.line.s2f = [] ∨ s.line.fPort.ownLast = false) → t = { s with
        line := { s.line with
          injections := es
          fPort := { s.line.fPort with transmission := some ⟨e.frame, false⟩, ownLast := true } }
        gate := { s.gate with scanDue := true }
        reports := s.reports ++ [.roomEvent] })))

/-- The S-egress has been signalled ready for a notice (R29, R180): while the reply queue is empty, the S-port is not paused and
no reply is held, the oldest pending notice whose destination is not 0 moves into the reply queue and those before it are
discarded; otherwise nothing happens. -/
def readySignalled (s t : State) : Prop :=
  ((s.line.replies ≠ [] ∨ s.line.sPort.paused ≠ none ∨ s.dispatcher.held ≠ []) → t = s) ∧
  (s.line.replies = [] → s.line.sPort.paused = none → s.dispatcher.held = [] →
    ((∀ n ∈ s.dispatcher.pendingNotices, s.dispatcher.destinations.getD (n.cls % s.dispatcher.fold) 0 = 0) →
      t = { s with dispatcher := { s.dispatcher with pendingNotices := [] } }) ∧
    (∀ skipped n rest dest, s.dispatcher.pendingNotices = skipped ++ n :: rest →
      (∀ x ∈ skipped, s.dispatcher.destinations.getD (x.cls % s.dispatcher.fold) 0 = 0) →
      s.dispatcher.destinations.getD (n.cls % s.dispatcher.fold) 0 = dest → dest ≠ 0 → t = { s with
        dispatcher := { s.dispatcher with pendingNotices := rest }
        line := { s.line with
          sequence := s.line.sequence + 1#8
          replies := [⟨buildFrame (BitVec.allOnes 48) Config.stationAddress s.line.typeValue
            { dest := dest, source := s.line.node, kind := 0x12, flags := 0#8, sequence := s.line.sequence, tag := none
              body := u8 255 ++ u8 n.cls ++ u8 n.event ++ u8 (if n.merged then 1 else 0) ++ u16 n.data.length ++
                n.data }, false⟩] } }))

/-- The telegram `e` of the reply queue leaves by the S-port, the telegrams `es` staying (R32). At that departure the oldest
held reply takes the freed place, numbered and with the node address that stands, a SET_LINK's address taking effect with it
(R176, R25); and with none held the S-egress is signalled ready (R29). -/
def replyLeaves (e : QueuedReply) (es : List QueuedReply) (s t : State) : Prop :=
  ∀ u : State, u = { s with line := { s.line with
      replies := es
      sPort := { s.line.sPort with transmission := some ⟨e.frame, e.restartReply⟩, ownLast := true } } } →
    (s.dispatcher.held = [] → readySignalled u t) ∧
    (s.dispatcher.held ≠ [] → 8 ≤ es.length → t = u) ∧
    (∀ r rest, s.dispatcher.held = r :: rest → es.length < 8 → t = { u with
      dispatcher := { s.dispatcher with held := rest }
      line := { u.line with
        sequence := s.line.sequence + 1#8
        node := r.newNode.getD s.line.node
        replies := es ++ [⟨buildFrame r.head.sourceStation Config.stationAddress s.line.typeValue
          { dest := r.head.sourceNode.toNat, source := s.line.node, kind := 0x11, flags := 0#8
            sequence := s.line.sequence, tag := none, body := r.body }, r.restartReply⟩] } })

/-- The arbiter of the S-port, whose transmitter is free in `s`, has acted (R32): as at the F-port, over the forward queue and
the reply queue, but that the reply to RESTART stands ahead of both queues. -/
def sPortActs (s t : State) : Prop :=
  (∀ q, s.line.sPort.waitingPause = some q → t = { s with line := { s.line with sPort :=
    { s.line.sPort with transmission := some ⟨pauseFrame q, false⟩, waitingPause := none } } }) ∧
  (s.line.sPort.waitingPause = none →
    (s.line.sPort.paused ≠ none → t = s) ∧
    (s.line.sPort.paused = none →
      (∀ before e after, s.line.replies = before ++ e :: after → e.restartReply = true →
        (∀ x ∈ before, x.restartReply = false) → replyLeaves e (before ++ after) s t) ∧
      ((∀ x ∈ s.line.replies, x.restartReply = false) →
        (s.line.f2s = [] → s.line.replies = [] → t = s) ∧
        (∀ f fs, s.line.f2s = f :: fs → (s.line.replies = [] ∨ s.line.sPort.ownLast = true) →
          forwardLeaves .fPort f fs s t) ∧
        (∀ e es, s.line.replies = e :: es → (s.line.f2s = [] ∨ s.line.sPort.ownLast = false) →
          replyLeaves e es s t))))

/-- The arbiter of a port has acted: nothing happens behind a busy transmitter. -/
def portActs (p : Port) (s t : State) : Prop :=
  ((s.line.port p).transmission ≠ none → t = s) ∧
  ((s.line.port p).transmission = none → match p with
    | .fPort => fPortActs s t
    | .sPort => sPortActs s t)

/-- The received pause of a port has ended (R34): the port is no longer paused and its arbiter acts; at the S-port the S-egress
is then signalled ready (R29), and a notice that moves starts an idle transmitter. DEDUCED (log entry 19). -/
def pauseEnds (p : Port) (s t : State) : Prop :=
  ∃ v, portActs p { s with line := s.line.setPort p { s.line.port p with paused := none } } v ∧
    match p with
    | .fPort => t = v
    | .sPort => ∃ x, readySignalled v x ∧ portActs .sPort x t

/-! ### Reports taken ahead of a build or a geometry request -/

/-- Some commands are run one after another. -/
def runs : List Instr → State → State → Prop
  | [], s, t => t = s
  | c :: cs, s, t => ∃ u, exec c s = .next u ∧ runs cs u t

/-- The Estimator and the Planner as a geometry request finds them: the reports of changes of mode under way to them have been taken
in the order they were made (R160). DEDUCED (log entry 52). -/
def modesSettled (s t : State) : Prop := runs (s.reports.filter modeToEither) s t

/-- The trims as a build finds them (R153): where a completion report is under way, the reports to the Arrival Monitor have been
taken in the order they were made. DESIGN CHOICE (log entry 20). -/
def trimsSettled (s t : State) : Prop :=
  ((∃ n, Instr.completionReport n ∈ s.reports) → runs (s.reports.filter toMonitor) s t) ∧
    ((∀ n, Instr.completionReport n ∉ s.reports) → t = s)

/-! ### The order in which reports are taken -/

/-- Of the reports under way, `before` stand ahead of the report `c`: those before its first place, or all of them where no block
made it. -/
def standsAhead (c : Instr) (reports before : List Instr) : Prop :=
  c ∉ before ∧ (reports = before ∨ ∃ after, reports = before ++ c :: after)

/-- No report of a kind stands ahead of the report `c`. The kinds are the Gate's reports to the Arrival Monitor (section 9), those
to the Mode Controller (R165, R166; DEDUCED, log entry 51), and those of changes of mode to the Estimator and to the Planner
(R160; DEDUCED, log entry 43). -/
def inPlace (kind : Instr → Bool) (c : Instr) (reports : List Instr) : Prop :=
  ∀ before, standsAhead c reports before → ∀ x ∈ before, kind x = false

/-- A report of the Gate on the installed plan that stands among `before` is taken by the Table Store ahead of the report `r`
that stands behind them (R77): every one ahead of a later one of the Gate, and a "yes", with all that stands before it, ahead
of "Planner building: no". DEDUCED (log entry 48). -/
def standsBehind (r : SwapInput) (before : List Instr) : Prop :=
  (∃ x, r = .planInstalled x) ∧ (∃ y, .swapConditionReport (.planInstalled y) ∈ before) ∨
    r = .plannerBuilding false ∧ .swapConditionReport (.planInstalled true) ∈ before

/-! ### Requests, row by row -/

/-- The head and the unit code of a request row (Table 11-3); none for the rows of events and for UNKNOWN_REQUEST. -/
def requestAt : Instr → Option (ReqHead × Nat)
  | .setTurbine h _ | .clearTurbine h _ | .setRow h _ | .setReference h _ | .setCorrection h _ | .clearFault h _
  | .readTurbine h _ | .readRow h _ => some (h, 1)
  | .setWindParams h _ | .setBands h _ | .setSectors h _ | .readEstimate h _ => some (h, 2)
  | .writeOffsets h _ | .writeSector h _ | .readOffsets h _ | .readSector h _ | .commit h _ | .cancelCommit h _
  | .readTableState h _ => some (h, 3)
  | .setPlanParams h _ | .retarget h _ | .preview h _ | .readPreview h _ => some (h, 4)
  | .hold h _ | .resume h _ | .setBudgets h _ | .readPlan h _ | .readMoves h _ => some (h, 5)
  | .enable h _ | .dry h _ | .disable h _ | .unwind h _ | .setLines h _ | .readMode h _ => some (h, 6)
  | .setArrival h _ | .readTrims h _ | .writeTrim h _ | .readArrivals h _ => some (h, 7)
  | .setLink h _ | .setNotices h _ | .readLink h _ => some (h, 8)
  | .saveImage h _ | .readImageState h _ => some (h, 9)
  | .identify h _ | .restart h _ => some (h, 10)
  | _ => none

/-! ### Invariants -/

/-- No queue and no ring exceeds its capacity (section 1.3, R27-R30, R114). -/
def queuesBounded (s : State) : Prop :=
  s.line.s2f.length ≤ 48 ∧ s.line.f2s.length ≤ 48 ∧ s.line.injections.length ≤ 32 ∧ s.line.inbox.length ≤ 8 ∧
    s.line.replies.length ≤ 8 ∧ s.gate.ring.length ≤ 1024

/-- STEERING is asserted exactly in LIVE and UNWIND (R159). -/
def steeringAgrees (s : State) : Prop := s.modes.steering = steeringOutput s.modes.mode

/-- Every advection trim lies in 32..128 (R146). -/
def trimsInRange (s : State) : Prop := ∀ sector, 32 ≤ s.monitor.trim sector ∧ s.monitor.trim sector ≤ 128

/-- The estimates lie in their ranges (R49), and the speed filter's gain is below 256 (Table 4-2), which R48 rests on. -/
def estimateInRange (s : State) : Prop :=
  s.wind.direction < 3600 ∧ s.wind.speed ≤ 400 ∧ s.wind.params.beta ≤ 255

/-- No turbine has two segments in flight, at most 32 segments fly, and no budget exceeds 32 (R119-R121). -/
def slotsBounded (s : State) : Prop :=
  (s.gate.flights.map (·.turbine)).Nodup ∧ s.gate.flights.length ≤ 32 ∧ (∀ b ∈ s.gate.budgets, b ≤ 32) ∧
    s.gate.urgentBudget ≤ 32

/-- The Move Ring holds at most 1024 records, whose sequence numbers count up one by one, 4294967295 followed by 1, to the
counter (R113, R114). -/
def ringOrdered (s : State) : Prop :=
  s.gate.ring.length ≤ 1024 ∧ s.gate.recordCounter ≤ 4294967295 ∧
    (∀ r ∈ s.gate.ring, 1 ≤ r.sequence ∧ r.sequence ≤ 4294967295) ∧
    (∀ r, s.gate.ring.getLast? = some r → r.sequence = s.gate.recordCounter) ∧
    ∀ i a b, s.gate.ring[i]? = some a → s.gate.ring[i + 1]? = some b →
      b.sequence = if a.sequence = 4294967295 then 1 else a.sequence + 1

/-- No two records of the Move Ring have one sequence number. -/
def ringDistinct (s : State) : Prop := (s.gate.ring.map (·.sequence)).Nodup

/-- The banks and the farm agree (R74, R75, R79): the records 0..S-1 of a VALID active bank pass the validation, and so do those
of a shadow whose commit is PENDING, beside which no refill runs. -/
def banksAgree (s : State) : Prop :=
  (s.tables.valid = true → ∀ k < s.wind.params.sectors, sectorValid s (s.tables.activeBank.sector k)) ∧
    (s.tables.commitPending = true → s.tables.refill = none ∧
      ∀ k < s.wind.params.sectors, sectorValid s ((s.tables.bank s.tables.shadow).sector k))

/-- The active bank is VALID throughout LIVE, DRY and UNWIND and throughout every build (R74): while it is INVALID the mode is
OFF, no build of either kind is in progress, and the Planner's mode input is neither LIVE nor DRY and does not become so by a
report under way. -/
def buildsReadValidBank (s : State) : Prop :=
  s.tables.valid = false → s.modes.mode = .off ∧ s.planner.build = none ∧ ¬ inSteering s.planner.modeIn ∧
    ∀ m, inSteering m → .plannerModeChange m ∉ s.reports

/-- The Planner comes to the mode of the Mode Controller by the reports under way to it: the last of its mode input and these is
that mode (R160). -/
def plannerFollows (s : State) : Prop :=
  (s.planner.modeIn :: s.reports.filterMap plannerReportOf).getLast? = some s.modes.mode

/-- So does the Estimator, and a dwell pair stands only where its mode input is LIVE or DRY or a report of these is under way to it
(R56-R60). -/
def estimatorFollows (s : State) : Prop :=
  (s.wind.modeIn :: s.reports.filterMap estimatorReportOf).getLast? = some s.modes.mode ∧
    (s.wind.dwellPair ≠ none → inSteering s.wind.modeIn ∨ ∃ m, inSteering m ∧ .estimatorModeChange m ∈ s.reports)

/-- The candidates and the dwell pair are of the sector count S (R51, R63, R66): the candidate, absent of an INVALID estimate, and
the dwell pair have a sector below it. -/
def candidatesBelowS (s : State) : Prop :=
  (s.wind.params.sectors = 12 ∨ s.wind.params.sectors = 24 ∨ s.wind.params.sectors = 36) ∧
    (s.wind.valid = false → s.wind.candidateSector = none) ∧
    (∀ c, s.wind.candidateSector = some c → c < s.wind.params.sectors) ∧
    ∀ d, s.wind.dwellPair = some d → d.pair.sector < s.wind.params.sectors

/-- The command at the front of the queue takes no report of a mode to the Estimator or the Planner that no block made. -/
def modeReportsMade (s : State) : Prop := ∀ c, s.pending.head? = some c → modeToEither c = true → c ∈ s.reports

/-- Every sparse table stands in its canonical form. -/
def tablesCanonical (s : State) : Prop :=
  s.fleet.statics.wf .unpopulated = true ∧ s.fleet.dynamics.wf .unseen = true ∧ s.fleet.rows.wf .empty = true ∧
    s.tables.bankA.offsets.wf 0 = true ∧ s.tables.bankA.sectors.wf .zeroed = true ∧
    s.tables.bankB.offsets.wf 0 = true ∧ s.tables.bankB.sectors.wf .zeroed = true ∧
    s.gate.components.wf 0 = true ∧ s.upkeep.controllerBias.wf 0 = true ∧ s.upkeep.refresh.wf none = true ∧
    s.monitor.trims.wf 64 = true

end Sys2Proof.Machine
end

