-- ==== Sys2Proof/Certificates/Slice0/Obligations.lean ====
section
/-! DEFINITION. The statements for the provers. A statement about a request speaks of the state `s0` in which its unit finds
it (`State.handsOver`) and of the state `u` its effect leaves; the answer then goes out by `AnswerIsPlacedOrHeld`. An equation
`u = { s0 with … }` names all that the effect may change. -/

open Sys2Proof Sys2Proof.Machine

/-! ### The queue, the envelope, the answers -/

/-- A step takes the command at the front of the queue and runs it with the queue's rest; with none waiting it runs the
part's own next event, and with none due a second passes (the last two are log entry 1's choice). -/
def Obligations.StepTakesFrontCommand : Prop :=
  (∀ (c : Instr) (rest : List Instr) (s : State), s.pending = c :: rest → step s = exec c { s with pending := rest }) ∧
  (∀ (c : Instr) (s : State), s.pending = [] → s.nextEvent = some c → step s = exec c s) ∧
  (∀ s : State, s.pending = [] → s.nextEvent = none → s.powered = true → step s = .next (s.elapse 1))

/-- No command stops the part, and none changes the waiting commands: the queue is the sender's. -/
def Obligations.EveryCommandAnswersNext : Prop :=
  ∀ (c : Instr) (s : State), ∃ t : State, exec c s = .next t ∧ t.pending = s.pending

/-- R175-R177, R28, R107: the request at the head of the inbox is taken, and leaves the inbox, when no reply is held and RESTART
has not been taken; a request that is not taken, or is not the one at the head, changes nothing (log entry 10's choice), and
with the inbox empty a request arrives and is taken in one command (log entry 12's choice). The envelope checks of a request
that is taken come in order: every request row with transaction 255 is answered BAD_ARG and, its unit busy with a late
request, BUSY; one that passes is handed to its unit, and UNKNOWN_REQUEST then does nothing (log entry 10's choice). A request
whose arguments cannot be decoded is handed and answered BAD_ARG by its unit, ahead of every other check of the unit (log
entry 13's reading; the requests it is read so for are listed). -/
def Obligations.EnvelopeIsJudgedInOrder : Prop :=
  (∀ (s : State) (r : Request) (rest : List Request), s.powered = true → s.dispatcher.held = [] →
    s.dispatcher.restartTaken = false → s.line.inbox = r :: rest →
    s.takeRequest (requestInstr r) = some { s with line := { s.line with inbox := rest } }) ∧
  (∀ (s : State) (c : Instr), s.powered = true → s.dispatcher.held = [] → s.dispatcher.restartTaken = false →
    s.line.inbox = [] → s.takeRequest c = some s) ∧
  (∀ (s : State) (c : Instr), ((requestAt c).isSome ∨ ∃ r, c = .unknownRequest r) →
    (s.powered = false ∨ s.dispatcher.held ≠ [] ∨ s.dispatcher.restartTaken = true ∨
      ∃ r rest, s.line.inbox = r :: rest ∧ requestInstr r ≠ c ∧ c ≠ .unknownRequest r) → exec c s = .next s) ∧
  (∀ (s s0 : State) (c : Instr) (h : ReqHead) (u : Nat), requestAt c = some (h, u) → s.takeRequest c = some s0 →
    (h.transaction = 255#8 → answers c s h u .badArg [] s0) ∧
    (h.transaction ≠ 255#8 → (u = 4 ∧ s0.dispatcher.plannerLate ≠ none ∨ u = 9 ∧ s0.dispatcher.imageLate ≠ none) →
      answers c s h u .busy [] s0)) ∧
  (∀ (s s0 : State) (h : ReqHead) (c : Instr) (u : Nat), s.handsOver c h u s0 →
    (u = 1 ∧ (c = .setReference h none ∨ c = .setCorrection h none ∨ c = .clearFault h none ∨ c = .readTurbine h none ∨
        c = .readRow h none) ∨
      u = 2 ∧ (c = .setWindParams h none ∨ c = .setBands h none ∨ c = .readEstimate h none) ∨
      u = 3 ∧ (c = .readOffsets h none ∨ c = .readSector h none ∨ c = .commit h none ∨ c = .cancelCommit h none ∨
        c = .readTableState h none) ∨
      u = 5 ∧ (c = .hold h none ∨ c = .resume h none ∨ c = .setBudgets h none ∨ c = .readPlan h none ∨
        c = .readMoves h none) ∨
      u = 6 ∧ (c = .enable h none ∨ c = .dry h none ∨ c = .disable h none ∨ c = .unwind h none ∨ c = .readMode h none) ∨
      u = 7 ∧ (c = .setArrival h none ∨ c = .writeTrim h none ∨ c = .readTrims h none ∨ c = .readArrivals h none) ∨
      u = 8 ∧ (c = .setNotices h none ∨ c = .setLink h none ∨ c = .readLink h none) ∨
      u = 9 ∧ (c = .saveImage h none ∨ c = .readImageState h none) ∨
      u = 10 ∧ (c = .identify h none ∨ c = .restart h none)) →
    answers c s h u .badArg [] s0) ∧
  ∀ (r : Request) (s s0 : State), s.takeRequest (.unknownRequest r) = some s0 →
    (r.head.transaction = 255#8 →
      answers (.unknownRequest r) s r.head r.unitCode.toNat .badArg [] s0) ∧
    (r.head.transaction ≠ 255#8 → requestCommand r = none →
      answers (.unknownRequest r) s r.head r.unitCode.toNat .unknown [] s0) ∧
    (r.head.transaction ≠ 255#8 → (requestCommand r).isSome → r.bodyLength ≠ 5 + r.argLength →
      answers (.unknownRequest r) s r.head r.unitCode.toNat .badArg [] s0) ∧
    (r.head.transaction ≠ 255#8 → (requestCommand r).isSome → r.bodyLength = 5 + r.argLength →
      s0.dispatcher.unitBusy r.unitCode.toNat = true →
      answers (.unknownRequest r) s r.head r.unitCode.toNat .busy [] s0) ∧
    (r.head.transaction ≠ 255#8 → (requestCommand r).isSome → r.bodyLength = 5 + r.argLength →
      s0.dispatcher.unitBusy r.unitCode.toNat = false → exec (.unknownRequest r) s = .next s)

/-- R176, R178, R38, R32: an answer is a telegram at the tail of the reply queue, numbered by the sequence counter, and the
S-port's arbiter then acts as `portActs` says, a busy transmitter going on with its frame; or the answer is held behind the
replies already held when the queue holds 8. -/
def Obligations.AnswerIsPlacedOrHeld : Prop :=
  ∀ (s v : State) (h : ReqHead) (u : Nat) (st : Status) (result : List Byte),
    v = { s with line := { s.line with
      sequence := s.line.sequence + 1#8
      replies := s.line.replies ++ [⟨buildFrame h.sourceStation Config.stationAddress s.line.typeValue
        { dest := h.sourceNode.toNat, source := s.line.node, kind := 0x11, flags := 0#8, sequence := s.line.sequence,
          tag := none, body := u8 u ++ [h.transaction] ++ u8 st.code ++ u16 result.length ++ result }, false⟩] } } →
    (s.line.replies.length < 8 → s.line.sPort.transmission.isSome = true → s.answer h u st result = v) ∧
    (s.line.replies.length < 8 → portActs .sPort v (s.answer h u st result)) ∧
    (8 ≤ s.line.replies.length →
      s.answer h u st result = { s with dispatcher := { s.dispatcher with
        held := s.dispatcher.held ++
          [⟨h, u8 u ++ [h.transaction] ++ u8 st.code ++ u16 result.length ++ result, false, none⟩] } }) ∧
    onlyEgress s (s.answer h u st result)

/-- The read requests: each is answered OK from the state as it stands when it is handed, and changes nothing (R19, R64,
R84, R112, R156, R157, R173, R183, R189, R191). An index out of range is answered BAD_ARG, and READ_IMAGE_STATE is BUSY
while a save runs. The result bytes are the model's encodings (log entries 7, 37, 47 and 49). -/
def Obligations.ReadsAnswerAndChangeNothing : Prop :=
  ∀ (s s0 : State) (h : ReqHead),
    (∀ t, s.handsOver (.readTurbine h (some t)) h 1 s0 →
      if t < 256 then answers (.readTurbine h (some t)) s h 1 .ok (s0.turbineResult t) s0
      else answers (.readTurbine h (some t)) s h 1 .badArg [] s0) ∧
    (∀ r, s.handsOver (.readRow h (some r)) h 1 s0 →
      if r < 16 then answers (.readRow h (some r)) s h 1 .ok (s0.rowResult r) s0
      else answers (.readRow h (some r)) s h 1 .badArg [] s0) ∧
    (s.handsOver (.readEstimate h (some ())) h 2 s0 →
      answers (.readEstimate h (some ())) s h 2 .ok s0.estimateResult s0) ∧
    (s.handsOver (.readTableState h (some ())) h 3 s0 →
      answers (.readTableState h (some ())) s h 3 .ok s0.tableStateResult s0) ∧
    (s.handsOver (.readPlan h (some ())) h 5 s0 → answers (.readPlan h (some ())) s h 5 .ok s0.planResult s0) ∧
    (s.handsOver (.readMode h (some ())) h 6 s0 → answers (.readMode h (some ())) s h 6 .ok s0.modeResult s0) ∧
    (s.handsOver (.readTrims h (some ())) h 7 s0 → answers (.readTrims h (some ())) s h 7 .ok s0.trimsResult s0) ∧
    (s.handsOver (.readArrivals h (some .current)) h 7 s0 →
      answers (.readArrivals h (some .current)) s h 7 .ok s0.currentWatches s0) ∧
    (s.handsOver (.readArrivals h (some .last)) h 7 s0 →
      answers (.readArrivals h (some .last)) s h 7 .ok s0.lastArrivals s0) ∧
    (s.handsOver (.readLink h (some ())) h 8 s0 → answers (.readLink h (some ())) s h 8 .ok s0.linkResult s0) ∧
    (s.handsOver (.readImageState h (some ())) h 9 s0 →
      if s0.image.save = none then answers (.readImageState h (some ())) s h 9 .ok s0.imageStateResult s0
      else answers (.readImageState h (some ())) s h 9 .busy [] s0) ∧
    (s.handsOver (.identify h (some ())) h 10 s0 → answers (.identify h (some ())) s h 10 .ok s0.capabilityRecord s0)

/-- R115: READ_MOVES refuses a count outside 1..16, answers OVERWRITTEN with the oldest retained number where the first
sequence is lower and not itself retained, and otherwise returns the records from the first sequence upward; in a ring that
stands across the wrap of the numbers, upward is the order of creation (log entry 41's reading). The result bytes are the
model's encodings (log entries 7 and 47). -/
def Obligations.ReadMovesReturnsRetainedRecords : Prop :=
  ∀ (s s0 : State) (h : ReqHead) (first count : Nat), s.handsOver (.readMoves h (some (first, count))) h 5 s0 →
    ((count < 1 ∨ 16 < count) → answers (.readMoves h (some (first, count))) s h 5 .badArg [] s0) ∧
    (1 ≤ count → count ≤ 16 → ∀ oldest rest, s0.gate.ring = oldest :: rest → first < oldest.sequence →
      (∀ r ∈ s0.gate.ring, r.sequence ≠ first) →
      answers (.readMoves h (some (first, count))) s h 5 .overwritten (u32 oldest.sequence) s0) ∧
    (1 ≤ count → count ≤ 16 → ∀ kept : List MoveRecord,
      ((∀ oldest rest, s0.gate.ring = oldest :: rest → oldest.sequence ≤ first ∧
          ∀ r ∈ rest, oldest.sequence ≤ r.sequence) ∧
          kept = s0.gate.ring.filter (fun r => decide (first ≤ r.sequence)) ∨
        (∃ oldest before r after, s0.gate.ring.head? = some oldest ∧ s0.gate.ring = before ++ r :: after ∧
          r.sequence = first ∧ (∀ x ∈ before, x.sequence ≠ first) ∧
          (∃ x ∈ s0.gate.ring, x.sequence < oldest.sequence) ∧ kept = r :: after)) →
      answers (.readMoves h (some (first, count))) s h 5 .ok
        (encOption u32 (s0.gate.ring.head?.map (·.sequence)) ++ encOption u32 (s0.gate.ring.getLast?.map (·.sequence)) ++
          encList encRecord (kept.take count)) s0)

/-- R73: READ_OFFSETS and READ_SECTOR return the bank of the role they name; a read of the shadow during a refill is BUSY, and
arguments out of range are answered BAD_ARG, also where a refill would make the read BUSY (the order of the two refusals is
log entry 18's reading). -/
def Obligations.TableReadsReturnTheNamedBank : Prop :=
  ∀ (s s0 : State) (h : ReqHead),
    (∀ x : ReadOffsetsArgs, s.handsOver (.readOffsets h (some x)) h 3 s0 →
      (¬ (x.sector < s0.wind.params.sectors ∧ x.band < 8 ∧ x.page < 4 ∧ x.start < 64 ∧ 1 ≤ x.count ∧ x.count ≤ 64) →
        answers (.readOffsets h (some x)) s h 3 .badArg [] s0) ∧
      (x.sector < s0.wind.params.sectors → x.band < 8 → x.page < 4 → x.start < 64 → 1 ≤ x.count → x.count ≤ 64 →
      ((x.role = .shadow ∧ s0.tables.refill ≠ none → answers (.readOffsets h (some x)) s h 3 .busy [] s0) ∧
       (¬ (x.role = .shadow ∧ s0.tables.refill ≠ none) →
        answers (.readOffsets h (some x)) s h 3 .ok
          (encList i16 ((List.range x.count).map fun i => (s0.tables.bank (s0.tables.letterOf x.role)).offset x.sector x.band
            (64 * x.page + (x.start + i) % 64))) s0)))) ∧
    (∀ role sector, s.handsOver (.readSector h (some (role, sector))) h 3 s0 →
      (s0.wind.params.sectors ≤ sector → answers (.readSector h (some (role, sector))) s h 3 .badArg [] s0) ∧
      (sector < s0.wind.params.sectors →
       (role = .shadow ∧ s0.tables.refill ≠ none → answers (.readSector h (some (role, sector))) s h 3 .busy [] s0) ∧
       (¬ (role = .shadow ∧ s0.tables.refill ≠ none) →
        answers (.readSector h (some (role, sector))) s h 3 .ok
          (encList u16 ((s0.tables.bank (s0.tables.letterOf role)).sector sector).order ++
            encList u16 ((s0.tables.bank (s0.tables.letterOf role)).sector sector).spacings) s0)))

/-- The parameter requests that every mode takes (R61, R62, R121, R155, R156, R181): values in range replace those in force
and are answered OK; any other values are answered BAD_ARG and change nothing. -/
def Obligations.ParameterRequestsReplaceValues : Prop :=
  ∀ (s s0 : State) (h : ReqHead),
    (∀ x : SetWindParamsArgs, s.handsOver (.setWindParams h (some x)) h 2 s0 →
      if 1 ≤ x.alpha ∧ x.alpha ≤ 255 ∧ 1 ≤ x.beta ∧ x.beta ≤ 255 ∧ 100 ≤ x.outlierLimit ∧ x.outlierLimit ≤ 1800 ∧
          5 ≤ x.wRef ∧ x.wRef ≤ 120 ∧ 5 ≤ x.wStale ∧ x.wStale ≤ 120 ∧ 10 ≤ x.dwell ∧ x.dwell ≤ 600 ∧ x.hysteresis ≤ 50 then
        answers (.setWindParams h (some x)) s h 2 .ok []
          { s0 with wind := { s0.wind with params := ⟨x.alpha, x.beta, x.outlierLimit, x.wRef, x.wStale, x.dwell,
            x.hysteresis, s0.wind.params.thresholds, s0.wind.params.hs, s0.wind.params.sectors⟩ } }
      else answers (.setWindParams h (some x)) s h 2 .badArg [] s0) ∧
    (∀ (t1 t2 t3 t4 t5 t6 t7 hs : Nat), s.handsOver (.setBands h (some ⟨[t1, t2, t3, t4, t5, t6, t7], hs⟩)) h 2 s0 →
      if hs ≤ 20 ∧ t7 ≤ 400 ∧ t1 + 2 * hs < t2 ∧ t2 + 2 * hs < t3 ∧ t3 + 2 * hs < t4 ∧ t4 + 2 * hs < t5 ∧
          t5 + 2 * hs < t6 ∧ t6 + 2 * hs < t7 then
        answers (.setBands h (some ⟨[t1, t2, t3, t4, t5, t6, t7], hs⟩)) s h 2 .ok []
          { s0 with wind := { s0.wind with params := { s0.wind.params with
            thresholds := [t1, t2, t3, t4, t5, t6, t7], hs := hs } } }
      else answers (.setBands h (some ⟨[t1, t2, t3, t4, t5, t6, t7], hs⟩)) s h 2 .badArg [] s0) ∧
    (∀ x : SetBudgetsArgs, s.handsOver (.setBudgets h (some x)) h 5 s0 → x.bands.length = 8 →
      if (∀ b ∈ x.bands, 1 ≤ b ∧ b ≤ 32) ∧ 1 ≤ x.urgent ∧ x.urgent ≤ 32 then
        answers (.setBudgets h (some x)) s h 5 .ok []
          { s0 with gate := { s0.gate with budgets := x.bands, urgentBudget := x.urgent, scanDue := true } }
      else answers (.setBudgets h (some x)) s h 5 .badArg [] s0) ∧
    (∀ x : SetArrivalArgs, s.handsOver (.setArrival h (some x)) h 7 s0 →
      if 4 ≤ x.theta ∧ x.theta ≤ 128 ∧ 2 ≤ x.tau ∧ x.tau ≤ 60 then
        answers (.setArrival h (some x)) s h 7 .ok []
          { s0 with monitor := { s0.monitor with theta := x.theta, tau := x.tau, learning := x.learning } }
      else answers (.setArrival h (some x)) s h 7 .badArg [] s0) ∧
    (∀ sector v, s.handsOver (.writeTrim h (some (sector, v))) h 7 s0 →
      if sector < s0.wind.params.sectors ∧ 32 ≤ v ∧ v ≤ 128 then
        ∃ u, answers (.writeTrim h (some (sector, v))) s h 7 .ok [] u ∧
          u = { s0 with monitor := { s0.monitor with trims := u.monitor.trims } } ∧
          u.monitor.trim sector = v ∧ ∀ k, k ≠ sector → u.monitor.trim k = s0.monitor.trim k
      else answers (.writeTrim h (some (sector, v))) s h 7 .badArg [] s0) ∧
    (∀ (d0 d1 d2 d3 e : Nat), s.handsOver (.setNotices h (some ⟨[d0, d1, d2, d3], e⟩)) h 8 s0 →
      if d0 ≤ 65534 ∧ d1 ≤ 65534 ∧ d2 ≤ 65534 ∧ d3 ≤ 65534 ∧ (e = 1 ∨ e = 2 ∨ e = 4) then
        answers (.setNotices h (some ⟨[d0, d1, d2, d3], e⟩)) s h 8 .ok []
          { s0 with dispatcher := { s0.dispatcher with destinations := [d0, d1, d2, d3], fold := e } }
      else answers (.setNotices h (some ⟨[d0, d1, d2, d3], e⟩)) s h 8 .badArg [] s0)

/-! ### The Line Path -/

/-- R22, R37: the frame the part builds around a telegram is a good frame when its body is at most 1475 bytes, and the
recognition of a received frame reads the same telegram back, whatever its fields. -/
def Obligations.BuiltTelegramIsReadBack : Prop :=
  ∀ (d src : Station) (ty : Nat) (t : Telegram),
    t.dest < 65536 → t.source < 65536 → t.kind < 256 → t.body.length ≤ 1475 →
    (if isTagged t.flags then ∃ g, t.tag = some g ∧ g.length = 8 else t.tag = none) →
      parseTelegram (buildFrame d src ty t) = some t ∧ frameIsGood (buildFrame d src ty t) = true

/-- R21-R24, R27, R33, R31, R32: a frame with a bad FCS or length changes nothing. A frame that is neither a MAC control frame
nor a park telegram of good check joins the queue of its direction unchanged, and is dropped at 48; and so does a park
telegram that is no MREQ to the part and no BIAS that R23 hands on (at the S-port) or SAMPLE that R24 hands on (at the
F-port). At depth 40 with the flag clear, and at 40 or more with it set, a PAUSE of 65535 comes to wait at the feeding port,
and is sent at once by an idle one (log entry 19's reading). The other port's arbiter then acts as `portActs` says; while it
transmits, the frame stays in its queue. The places of the opcode and of the pause time are log entry 44's. -/
def Obligations.ForeignFramesAreForwarded : Prop :=
  ∀ (s : State) (p : Port) (f : Frame), s.powered = true →
    (frameIsGood f = false → exec (.frameReception p f) s = .next s) ∧
    (frameIsGood f = true → fieldAt f 12 = 0x8808 → fieldAt f 14 ≠ 1 → exec (.frameReception p f) s = .next s) ∧
    (frameIsGood f = true → fieldAt f 12 ≠ 0x8808 → (fieldAt f 12 ≠ s.line.typeValue ∨ parseTelegram f = none ∨
        (∃ m, parseTelegram f = some m ∧ ¬ (m.kind = 0x10 ∧ m.dest = s.line.node) ∧
          (p = .sPort → ¬ (m.kind = 0x02 ∧ m.body.length = 3 ∧ (byteAt m.body 2 = 0 ∨ byteAt m.body 2 = 1))) ∧
          (p = .fPort → ¬ (m.kind = 0x01 ∧ m.body.length = 11 ∧ s.fleet.turbineAt m.source ≠ none)))) →
      (48 ≤ (s.line.forward p).length → exec (.frameReception p f) s = .next s) ∧
      ((s.line.forward p).length < 48 →
        ∃ v t, exec (.frameReception p f) s = .next t ∧ forwardJoins p f s v ∧ portActs (otherPort p) v t) ∧
      ((s.line.forward p).length < 48 → (s.line.port (otherPort p)).transmission.isSome = true →
        ∃ t, exec (.frameReception p f) s = .next t ∧ t.line.forward p = s.line.forward p ++ [f] ∧
          t.line.forward (otherPort p) = s.line.forward (otherPort p) ∧ t.line.injections = s.line.injections ∧
          t.line.inbox = s.line.inbox ∧ t.line.replies = s.line.replies ∧
          t = { s with line := t.line } ∧
          ((s.line.port p).transmission.isSome = true →
            (t.line.asserted p = true ↔ s.line.asserted p = true ∨ (s.line.forward p).length + 1 = 40) ∧
            (t.line.port p).waitingPause =
              if (s.line.asserted p = true ∧ 40 ≤ (s.line.forward p).length + 1) ∨
                  (s.line.asserted p = false ∧ (s.line.forward p).length + 1 = 40) then some 65535
              else (s.line.port p).waitingPause)))

/-- R23, R28: an MREQ addressed to the part at the S-port joins the inbox, or is discarded at 8; nothing else changes. -/
def Obligations.RequestJoinsInbox : Prop :=
  ∀ (s : State) (f : Frame) (t : Telegram), s.powered = true → frameIsGood f = true → fieldAt f 12 ≠ 0x8808 →
    fieldAt f 12 = s.line.typeValue → parseTelegram f = some t → t.kind = 0x10 → t.dest = s.line.node →
    (s.line.inbox.length < 8 → exec (.frameReception .sPort f) s =
      .next { s with line := { s.line with inbox := s.line.inbox ++ [requestOf f t] } }) ∧
    (8 ≤ s.line.inbox.length → exec (.frameReception .sPort f) s = .next s) ∧
    exec (.frameReception .fPort f) s = .next s

/-- R133, R135, R36, R27: a BIAS telegram whose destination is a known turbine sets the controller bias when its origin is
CONTROLLER and leaves it when its origin is PART. In LIVE and UNWIND either restarts the refresh timer and goes on with the
commanded bias, within the bias limit, in its bias field and every other field but tag and flags as received; in OFF and DRY,
and for a destination that is no turbine's, it goes on as received but for tag and flags. The dry flag of an untagged telegram
is cleared, and the telegram rebuilt, by log entry 16's choice. At a full queue it is dropped and neither recorded nor
rewritten. -/
def Obligations.ControllerBiasIsRecordedAndRewritten : Prop :=
  ∀ (s : State) (f plain : Frame) (t : Telegram), s.powered = true → frameIsGood f = true →
    fieldAt f 12 ≠ 0x8808 → fieldAt f 12 = s.line.typeValue → parseTelegram f = some t → t.kind = 0x02 →
    t.body.length = 3 → (byteAt t.body 2 = 0 ∨ byteAt t.body 2 = 1) →
    plain = (if t.tag = none ∧ t.flags = withFlags t.flags false false then f
      else rebuildFrame f { t with flags := withFlags t.flags false false, tag := none }) →
    (48 ≤ s.line.s2f.length → exec (.frameReception .sPort f) s = .next s) ∧
    (s.line.s2f.length < 48 → s.fleet.turbineAt t.dest = none →
      exec (.frameReception .sPort f) s = .next (State.joinForward .sPort plain s)) ∧
    (∀ i, s.line.s2f.length < 48 → s.fleet.turbineAt t.dest = some i →
    ∃ u g, exec (.frameReception .sPort f) s = .next (State.joinForward .sPort g u) ∧
      u = { s with upkeep := u.upkeep } ∧ u.upkeep.modeIn = s.upkeep.modeIn ∧
      u.upkeep.controllerBias.get 0 i = (if byteAt t.body 2 = 0 then signed16 (fieldAt t.body 0)
        else s.upkeep.controllerBias.get 0 i) ∧
      (∀ j, j ≠ i → u.upkeep.controllerBias.get 0 j = s.upkeep.controllerBias.get 0 j) ∧
      ((s.upkeep.modeIn = .off ∨ s.upkeep.modeIn = .dry) →
        u.upkeep.refresh = s.upkeep.refresh ∧ u.upkeep.waitList = s.upkeep.waitList ∧ g = plain) ∧
      ((s.upkeep.modeIn = .live ∨ s.upkeep.modeIn = .unwind) →
        u.upkeep.refresh.get none i = some (s.clock + s.planner.params.refresh) ∧
        (∀ j, j ≠ i → u.upkeep.refresh.get none j = s.upkeep.refresh.get none j) ∧
        u.upkeep.waitList = s.upkeep.waitList.erase i ∧
        ∃ b : Int, b = clamp (-(s.planner.params.biasLimit : Int)) s.planner.params.biasLimit
            (u.upkeep.controllerBias.get 0 i + s.gate.component i) ∧
          g = rebuildFrame f { t with
            flags := withFlags t.flags false false, tag := none, body := i16 b ++ t.body.drop 2 }))

/-- R24, R27, R7-R10, R35: a SAMPLE of a known turbine received at the F-port with room in its queue. A repeat changes nothing
but the queue. A used one updates the turbine's record and restarts its stale timer at W_s, whatever the turbine is, and is
then handed, in this order, to the Wind Estimator for a reference turbine, to the Arrival Monitor for the arrival reference
of a row and to the Release Gate when its yaw fields are usable, each taking it as the command of its own section; a
LOCKED sample that fails a segment makes the turbine FAULT as well. The frame then joins the queue: with tagging on outside
OFF it carries the tag composed from the state after all that, and otherwise no tag, rebuilt only where something was removed
(log entry 16's reading). With the queue full the sample is dropped unused. -/
def Obligations.SampleUpdatesTheRecord : Prop :=
  ∀ (s : State) (f : Frame) (m : Telegram) (i sq dir spd pow yc : Nat) (ach : Int) (y : Option YawState),
    s.powered = true → frameIsGood f = true → fieldAt f 12 ≠ 0x8808 → fieldAt f 12 = s.line.typeValue →
    parseTelegram f = some m → m.kind = 0x01 → m.body.length = 11 → s.fleet.turbineAt m.source = some i →
    sq = fieldAt m.body 0 → dir = fieldAt m.body 2 → spd = fieldAt m.body 4 → pow = fieldAt m.body 6 →
    yc = byteAt m.body 8 → ach = signed16 (fieldAt m.body 9) →
    y = (if ach < -1800 ∨ 1800 < ach then none
      else if yc = 0 then some .idle else if yc = 1 then some .running else if yc = 2 then some .fault
      else if yc = 3 then some .locked else none) →
    (48 ≤ s.line.f2s.length → exec (.frameReception .fPort f) s = .next s) ∧
    (s.line.f2s.length < 48 → ∃ u g, exec (.frameReception .fPort f) s = .next (State.joinForward .fPort g u) ∧
      u = { s with
        fleet := { s.fleet with dynamics := u.fleet.dynamics }, wind := u.wind, gate := u.gate
        monitor := { s.monitor with watches := u.monitor.watches }, reports := u.reports, notices := u.notices } ∧
      ((s.fleet.dynamic i).sequence = some sq → u = s) ∧
      ((s.fleet.dynamic i).sequence ≠ some sq → ∃ (u1 u2 u3 : State) (d : TurbineDynamic),
        d = {
          availability := if (s.fleet.dynamic i).availability = .fault ∨ y = some .fault then .fault else .online
          yaw := if y = none then (s.fleet.dynamic i).yaw else y
          direction := if dir ≤ 3599 then some dir else (s.fleet.dynamic i).direction
          speed := if spd ≤ 600 then some spd else (s.fleet.dynamic i).speed
          power := some pow
          achieved := if y = none then (s.fleet.dynamic i).achieved else some ach
          time := some s.now
          sequence := some sq
          stale := some (s.clock + s.wind.params.wStale) } ∧
        u1 = { s with fleet := { s.fleet with dynamics := u1.fleet.dynamics } } ∧ u1.fleet.dynamic i = d ∧
        (∀ j, j ≠ i → u1.fleet.dynamic j = s.fleet.dynamic j) ∧
        ((s.fleet.static i).reference = true → exec (.referenceSample ⟨i, s.now, if dir ≤ 3599 then some dir else none,
          if spd ≤ 600 then some spd else none, (s.fleet.static i).offset, (s.fleet.static i).gain⟩) u1 = .next u2) ∧
        ((s.fleet.static i).reference = false → u2 = u1) ∧
        (∀ r, s.fleet.referenceRow i = some r → exec (.arrivalSample r pow s.now) u2 = .next u3) ∧
        (s.fleet.referenceRow i = none → u3 = u2) ∧
        (∀ z, y = some z → exec (.segmentSample i z ach) u3 = .next u) ∧ (y = none → u = u3) ∧
        (∀ j, j ≠ i → u.fleet.dynamic j = s.fleet.dynamic j) ∧
        u.fleet.dynamic i = { d with
          availability := if y = some .locked ∧ s.gate.flightOf i ≠ none ∧
              (s.gate.modeIn = .live ∨ s.gate.modeIn = .unwind) then .fault
            else d.availability }) ∧
      ((s.line.tagging = false ∨ s.line.modeIn = .off) →
        g = if m.tag = none ∧ m.flags = withFlags m.flags false false then f
          else rebuildFrame f { m with flags := withFlags m.flags false false, tag := none }) ∧
      (s.line.tagging = true → s.line.modeIn ≠ .off → g = rebuildFrame f { m with
        flags := withFlags m.flags true (decide (s.line.modeIn = .dry))
        tag := some (
          u16 (match u.gate.installed with | some p => p.number | none => 0) ++
          i16 (clamp (-(s.planner.params.biasLimit : Int)) s.planner.params.biasLimit
            (s.upkeep.controllerBias.get 0 i + u.gate.component i)) ++
          u8 (if u.gate.flightOf i ≠ none then 3
            else if ∃ r ∈ u.gate.ring, r.turbine = i ∧ r.state = .ready then 2
            else if ∃ r ∈ u.gate.ring, r.turbine = i ∧ r.state = .pending then 1 else 0) ++
          u8 (match s.line.modeIn with | .off => 0 | .live => 1 | .dry => 2 | .unwind => 3) ++
          u8 (match (u.fleet.dynamic i).availability with | .unseen => 0 | .online => 1 | .stale => 2 | .fault => 3) ++
          u8 (match u.gate.installed with
            | none => 0
            | some p => if p.state = .running then 1 else if p.state = .held then 2
              else if p.state = .draining then 3 else 0)) }))

/-- R31-R34: at the end of a transmission and at the end of a received pause, by its expiry or by a PAUSE of time 0, the
port's arbiter acts, and `portActs` says what it sends: at both ports a waiting PAUSE first, nothing else while paused, then
the two queues in turn, with the PAUSE of 0 that a departure to depth 16 asserts, the room event of an injection sent, and at
the S-port the held reply placed and the notice moved at a departure. A received PAUSE of a time above 0 sets the time left,
in place of what stood; one of time 0 with no pause changes nothing. A PAUSE behind an idle transmitter and the notice moved
at a pause's end are log entry 19's reading. That the end of no transmission and of no pause changes nothing is log entry 10's
choice. The places of the opcode and of the pause time in a received frame are log entry 44's. The end of the RESTART reply is
stated apart. -/
def Obligations.PortEventsFreeTheTransmitter : Prop :=
  (∀ (s : State) (p : Port) (x : Transmission), s.powered = true → (s.line.port p).transmission = some x →
    x.restartReply = false → ∃ t, exec (.transmissionEnd p) s = .next t ∧
      portActs p { s with line := s.line.setPort p { s.line.port p with transmission := none } } t) ∧
  (∀ (s : State) (p : Port), s.powered = true →
    ((s.line.port p).transmission = none → exec (.transmissionEnd p) s = .next s) ∧
    ((s.line.port p).paused = none → exec (.pauseExpiry p) s = .next s) ∧
    ((s.line.port p).paused ≠ none → ∃ t, exec (.pauseExpiry p) s = .next t ∧ pauseEnds p s t)) ∧
  (∀ (s : State) (p : Port) (f : Frame), s.powered = true → frameIsGood f = true → fieldAt f 12 = 0x8808 →
    fieldAt f 14 = 1 →
    (0 < fieldAt f 16 → exec (.frameReception p f) s =
      .next { s with line := s.line.setPort p { s.line.port p with paused := some (fieldAt f 16) } }) ∧
    (fieldAt f 16 = 0 → (s.line.port p).paused = none → exec (.frameReception p f) s = .next s) ∧
    (fieldAt f 16 = 0 → (s.line.port p).paused ≠ none →
      ∃ t, exec (.frameReception p f) s = .next t ∧ pauseEnds p s t))

/-- R190 and the rules it gathers: RESTART is answered and takes no further request; at the end of its reply's transmission
every block takes its restart values, each field named: the configuration, the Move Ring and the counters are kept, an
installed plan becomes the last plan as ABORTED, unfinished records finish CANCELLED with cause RESTART, an unwind in
progress ends INCOMPLETE, and hold sources, queues, late records, notices and the PAUSE state are cleared. Which reports
outlive the restart, and in which order the new ones follow, is log entry 21's choice; that the lines are sampled at their
recorded levels is log entry 22's. -/
def Obligations.RestartReturnsWorkingState : Prop :=
  (∀ (s s0 : State) (h : ReqHead), s.handsOver (.restart h (some ())) h 10 s0 →
    ∃ t, exec (.restart h (some ())) s = .next t ∧ t.dispatcher.restartTaken = true ∧ t.dispatcher.ready = false ∧
      (∀ v, v = { s0 with
          dispatcher := { s0.dispatcher with restartTaken := true }
          line := { s0.line with
            sequence := s0.line.sequence + 1#8
            replies := s0.line.replies ++ [⟨buildFrame h.sourceStation Config.stationAddress s0.line.typeValue
              { dest := h.sourceNode.toNat, source := s0.line.node, kind := 0x11, flags := 0#8
                sequence := s0.line.sequence, tag := none
                body := [10#8, h.transaction, 0#8, 0#8, 0#8] }, true⟩] } } →
        s0.line.replies.length < 8 → portActs .sPort v t ∧ (s0.line.sPort.transmission.isSome = true → t = v)) ∧
      (8 ≤ s0.line.replies.length → t = { s0 with dispatcher := { s0.dispatcher with
        restartTaken := true
        held := s0.dispatcher.held ++ [⟨h, [10#8, h.transaction, 0#8, 0#8, 0#8], true, none⟩] } })) ∧
  (∀ (s : State) (x : Transmission) (act : LineState → Bool), s.powered = true → s.line.sPort.transmission = some x →
    x.restartReply = true → (∀ l, act l =
      (l.config.enabled && decide (l.level = (match l.config.edge with | .rising => .high | .falling => .low)))) →
    ∃ t, exec (.transmissionEnd .sPort) s = .next t ∧ t.powered = true ∧ t.clock = s.clock ∧ t.pending = s.pending ∧
      t.image = s.image ∧ t.notices = [] ∧
      t.line = { State.reset.line with
        fPort := { State.reset.line.fPort with transmission := s.line.fPort.transmission }
        node := s.line.node, typeValue := s.line.typeValue, tagging := s.line.tagging } ∧
      t.fleet.statics = s.fleet.statics ∧ t.fleet.rows = s.fleet.rows ∧ (∀ i, t.fleet.dynamic i = .unseen) ∧
      t.wind = { State.reset.wind with params := s.wind.params } ∧
      t.tables = { s.tables with commitPending := false, planInstalled := false, plannerBuilding := false } ∧
      t.planner = { State.reset.planner with params := s.planner.params } ∧
      (∀ i, t.gate.component i = 0) ∧
      t.gate = { s.gate with
        installed := none
        last := match s.gate.installed with | some p => some { p with state := .aborted } | none => s.gate.last
        steered := none
        ring := s.gate.ring.map (fun r => if r.state.finished = true then r else { r with
          state := .cancelled, cause := some .restart, finishTime := some s.now, segmentTarget := none
          grantTime := none })
        normalQueue := [], urgentQueue := [], flights := [], components := t.gate.components
        requestHold := false, lineHold := false, modeIn := .off, scanDue := false } ∧
      t.upkeep = State.reset.upkeep ∧
      t.monitor = { State.reset.monitor with
        trims := s.monitor.trims, theta := s.monitor.theta, tau := s.monitor.tau, learning := s.monitor.learning } ∧
      t.modes = {
        mode := .off, steering := false, latest := ⟨.restart, s.now, s.modes.mode, .off⟩
        storm := { s.modes.storm with isActive := act s.modes.storm }
        gridhold := { s.modes.gridhold with isActive := act s.modes.gridhold }
        unwindRecord := s.modes.unwindRecord.map (fun r => if r.outcome = .inProgress then { r with
          outcome := .incomplete, endSecond := some s.now
          cancelled := r.created - (r.settled + r.failed + r.skipped) } else r) } ∧
      t.dispatcher = { State.reset.dispatcher with
        destinations := s.dispatcher.destinations, fold := s.dispatcher.fold } ∧
      t.reports = s.reports.filter (fun c => decide (c = .swapConditionReport (.saveInProgress true) ∨
          c = .swapConditionReport (.saveInProgress false))) ++
        (if s.tables.commitPending = true then [.commitStateReport false] else []) ++
        (if act s.modes.gridhold = true then [.gridholdReport true] else []))

/-! ### Mode reports -/

/-- R39, R143, R160: the blocks take a mode report by setting their mode input. Entry to OFF purges the injection queue, each
entry a room event, and at Upkeep stops every refresh and empties the wait list; the controller biases stay. -/
def Obligations.ModeReportsSetTheInputs : Prop :=
  ∀ (s : State) (m : Mode), s.powered = true →
    (m ≠ .off → exec (.linePathModeChange m) s =
      .next { s with line := { s.line with modeIn := m }, reports := s.reports.erase (.linePathModeChange m) }) ∧
    (∃ t, exec (.linePathModeChange .off) s = .next t ∧
      t.line = { s.line with modeIn := .off, injections := [] } ∧
      t.reports = s.reports.erase (.linePathModeChange .off) ++ List.replicate s.line.injections.length .roomEvent ∧
      t = { s with line := t.line, reports := t.reports, gate := { s.gate with scanDue := t.gate.scanDue } } ∧
      (t.gate.scanDue = true ↔ s.gate.scanDue = true ∨ s.line.injections ≠ [])) ∧
    (m ≠ .off → exec (.upkeepModeChange m) s =
      .next { s with upkeep := { s.upkeep with modeIn := m }, reports := s.reports.erase (.upkeepModeChange m) }) ∧
    exec (.upkeepModeChange .off) s =
      .next { s with upkeep := ⟨s.upkeep.controllerBias, ⟨[]⟩, [], .off⟩,
                     reports := s.reports.erase (.upkeepModeChange .off) } ∧
    exec (.arrivalMonitorModeChange m) s =
      .next { s with monitor := { s.monitor with modeIn := m },
                     reports := s.reports.erase (.arrivalMonitorModeChange m) } ∧
    exec (.gateModeChange .live) s =
      .next { s with gate := { s.gate with modeIn := .live }, reports := s.reports.erase (.gateModeChange .live) } ∧
    exec (.gateModeChange .dry) s =
      .next { s with gate := { s.gate with modeIn := .dry }, reports := s.reports.erase (.gateModeChange .dry) }

/-! ### The Fleet Table -/

/-- R11 and R13: the stale expiry makes an ONLINE turbine STALE and leaves a FAULT one; CLEAR_FAULT makes a FAULT turbine
ONLINE while the timer runs and STALE otherwise, and refuses an unpopulated index. Nothing else of any record changes. That
an expiry lets the timer's remaining seconds pass first is log entry 1's choice. -/
def Obligations.StaleTimerAndClearFault : Prop :=
  (∀ (s : State) (i d : Nat), s.powered = true → (s.fleet.dynamic i).stale = some d →
    ∃ t, exec (.staleExpiry i) s = .next t ∧ t = { s.elapse (d - s.clock) with fleet := t.fleet } ∧
      t.fleet.statics = s.fleet.statics ∧ t.fleet.rows = s.fleet.rows ∧
      (∀ j, j ≠ i → t.fleet.dynamic j = s.fleet.dynamic j) ∧
      t.fleet.dynamic i = { s.fleet.dynamic i with
        stale := none
        availability := if (s.fleet.dynamic i).availability = .online then .stale
                        else (s.fleet.dynamic i).availability }) ∧
  (∀ (s s0 : State) (h : ReqHead) (i : Nat), s.handsOver (.clearFault h (some i)) h 1 s0 →
    if i < 256 ∧ s0.fleet.populated i = true then
      ∃ u, answers (.clearFault h (some i)) s h 1 .ok [] u ∧ u = { s0 with fleet := u.fleet } ∧
        u.fleet.statics = s0.fleet.statics ∧ u.fleet.rows = s0.fleet.rows ∧
        (∀ j, j ≠ i → u.fleet.dynamic j = s0.fleet.dynamic j) ∧
        u.fleet.dynamic i = { s0.fleet.dynamic i with
          availability := if (s0.fleet.dynamic i).availability = .fault then
              (if (s0.fleet.dynamic i).stale = none then .stale else .online)
            else (s0.fleet.dynamic i).availability }
    else answers (.clearFault h (some i)) s h 1 .badArg [] s0)

/-- R15: SET_TURBINE, in OFF with no build, no save and no PENDING commit (the last is log entry 42's reading), populates an
unpopulated record with the values of R3, gives a populated one its new address and makes it UNSEEN, leaves one that has the
address already, and marks the active bank INVALID. That the Estimator and the Planner have taken the reports of the mode by then
(`modesSettled`) is log entry 52's reading. An address out of range, held by another turbine or the part's own is refused with
BAD_ARG. -/
def Obligations.SetTurbineActsByRecord : Prop :=
  ∀ (s s0 v : State) (h : ReqHead) (i a : Nat), s.handsOver (.setTurbine h (some (i, a))) h 1 s0 → modesSettled s0 v →
    s0.modes.mode = .off → s0.planner.build = none → s0.image.save = none → s0.tables.commitPending = false →
    (¬ (i < 256 ∧ 1 ≤ a ∧ a ≤ 65534 ∧ a ≠ s0.line.node ∧
        ∀ c ∈ s0.fleet.statics.cells, c.1 ≠ i → c.2.address ≠ some a) →
      answers (.setTurbine h (some (i, a))) s h 1 .badArg [] s0) ∧
    (i < 256 → 1 ≤ a → a ≤ 65534 → a ≠ s0.line.node →
    (∀ c ∈ s0.fleet.statics.cells, c.1 ≠ i → c.2.address ≠ some a) →
    ∃ u, answers (.setTurbine h (some (i, a))) s h 1 .ok [] u ∧
      u = { v with fleet := u.fleet, tables := { v.tables with valid := false } } ∧ u.fleet.rows = s0.fleet.rows ∧
      (∀ j, j ≠ i → u.fleet.static j = s0.fleet.static j ∧ u.fleet.dynamic j = s0.fleet.dynamic j) ∧
      ((s0.fleet.static i).address = none →
        u.fleet.static i = ⟨some a, false, 0, 4096⟩ ∧ u.fleet.dynamic i = .unseen) ∧
      ((s0.fleet.static i).address = some a →
        u.fleet.static i = s0.fleet.static i ∧ u.fleet.dynamic i = s0.fleet.dynamic i) ∧
      (∀ b, (s0.fleet.static i).address = some b → b ≠ a →
        u.fleet.static i = { s0.fleet.static i with address := some a } ∧ u.fleet.dynamic i = .unseen))

/-- R16: CLEAR_TURBINE, taken with no commit PENDING (log entry 42's reading), returns a populated record to unpopulated and
UNSEEN, takes the turbine out of the row it stands in, and marks the active bank INVALID; an unpopulated record is refused
with BAD_ARG. That the Estimator and the Planner have taken the reports of the mode by then (`modesSettled`) is log entry 52's
reading. -/
def Obligations.ClearTurbineLeavesItsRow : Prop :=
  ∀ (s s0 v : State) (h : ReqHead) (i : Nat), s.handsOver (.clearTurbine h (some i)) h 1 s0 → modesSettled s0 v →
    s0.modes.mode = .off → s0.planner.build = none → s0.image.save = none → s0.tables.commitPending = false →
    (¬ (i < 256 ∧ s0.fleet.populated i = true) → answers (.clearTurbine h (some i)) s h 1 .badArg [] s0) ∧
    (i < 256 → s0.fleet.populated i = true →
    ∃ u, answers (.clearTurbine h (some i)) s h 1 .ok [] u ∧
      u = { v with fleet := u.fleet, tables := { v.tables with valid := false } } ∧
      u.fleet.static i = .unpopulated ∧ u.fleet.dynamic i = .unseen ∧
      (∀ j, j ≠ i → u.fleet.static j = s0.fleet.static j ∧ u.fleet.dynamic j = s0.fleet.dynamic j) ∧
      (s0.fleet.place i = none → u.fleet.rows = s0.fleet.rows) ∧
      (∀ r k, s0.fleet.place i = some (r, k) →
        (u.fleet.row r).members = (s0.fleet.row r).members.erase i ∧
        ((s0.fleet.row r).arrivalRef = some i → (u.fleet.row r).arrivalRef = none) ∧
        ((s0.fleet.row r).arrivalRef ≠ some i → (u.fleet.row r).arrivalRef = (s0.fleet.row r).arrivalRef) ∧
        ∀ q, q ≠ r → u.fleet.row q = s0.fleet.row q))

/-- R17: SET_ROW, taken with no commit PENDING (log entry 42's reading), replaces a row's member list and arrival reference
when the list is of distinct populated turbines that stand in no other row and holds the reference, and marks the active bank
INVALID; otherwise it is refused with BAD_ARG. That the Estimator and the Planner have taken the reports of the mode by then
(`modesSettled`) is log entry 52's reading. -/
def Obligations.SetRowReplacesTheRow : Prop :=
  ∀ (s s0 v : State) (h : ReqHead) (r : Nat) (ms : List Nat) (ref : Option Nat),
    s.handsOver (.setRow h (some ⟨r, ms, ref⟩)) h 1 s0 → modesSettled s0 v →
    s0.modes.mode = .off → s0.planner.build = none → s0.image.save = none → s0.tables.commitPending = false →
    ∀ ok : Prop, (ok ↔ r < 16 ∧ ms.length ≤ 32 ∧ ms.Nodup ∧ (∀ m ∈ ms, m < 256 ∧ s0.fleet.populated m = true) ∧
      (∀ c ∈ s0.fleet.rows.cells, c.1 ≠ r → ∀ m ∈ ms, m ∉ c.2.members) ∧ (∀ x, ref = some x → x ∈ ms)) →
    (¬ ok → answers (.setRow h (some ⟨r, ms, ref⟩)) s h 1 .badArg [] s0) ∧
    (ok → ∃ u, answers (.setRow h (some ⟨r, ms, ref⟩)) s h 1 .ok [] u ∧
      u = { v with fleet := { s0.fleet with rows := u.fleet.rows }, tables := { v.tables with valid := false } } ∧
      u.fleet.row r = ⟨ms, ref⟩ ∧ ∀ q, q ≠ r → u.fleet.row q = s0.fleet.row q)

/-- R18: SET_REFERENCE and SET_CORRECTION set one turbine's flag or correction in every mode; an unpopulated turbine, or a
correction out of range, is refused with BAD_ARG. -/
def Obligations.ReferenceAndCorrectionAreSet : Prop :=
  ∀ (s s0 : State) (h : ReqHead),
    (∀ i on, s.handsOver (.setReference h (some (i, on))) h 1 s0 →
      if i < 256 ∧ s0.fleet.populated i = true then
        ∃ u, answers (.setReference h (some (i, on))) s h 1 .ok [] u ∧
          u = { s0 with fleet := { s0.fleet with statics := u.fleet.statics } } ∧
          u.fleet.static i = { s0.fleet.static i with reference := on } ∧
          ∀ j, j ≠ i → u.fleet.static j = s0.fleet.static j
      else answers (.setReference h (some (i, on))) s h 1 .badArg [] s0) ∧
    (∀ i c g, s.handsOver (.setCorrection h (some ⟨i, c, g⟩)) h 1 s0 →
      if i < 256 ∧ s0.fleet.populated i = true ∧ -300 ≤ c ∧ c ≤ 300 ∧ 2048 ≤ g ∧ g ≤ 4096 then
        ∃ u, answers (.setCorrection h (some ⟨i, c, g⟩)) s h 1 .ok [] u ∧
          u = { s0 with fleet := { s0.fleet with statics := u.fleet.statics } } ∧
          u.fleet.static i = { s0.fleet.static i with offset := c, gain := g } ∧
          ∀ j, j ≠ i → u.fleet.static j = s0.fleet.static j
      else answers (.setCorrection h (some ⟨i, c, g⟩)) s h 1 .badArg [] s0)

/-- R14, R63: a geometry request outside OFF is refused with BAD_MODE, whatever its arguments; in OFF during a build or a save
it is refused with BUSY, and so it is while a commit is PENDING (log entry 42's reading of R79); and nothing changes. That
arguments which cannot be decoded come after both checks is log entry 13's reading. -/
def Obligations.GeometryNeedsOffAndIdle : Prop :=
  ∀ (s s0 : State) (h : ReqHead) (c : Instr) (u : Nat),
    ((∃ a, c = .setTurbine h a) ∧ u = 1 ∨ (∃ a, c = .clearTurbine h a) ∧ u = 1 ∨ (∃ a, c = .setRow h a) ∧ u = 1 ∨
      (∃ a, c = .setSectors h a) ∧ u = 2) → s.handsOver c h u s0 →
    (s0.modes.mode ≠ .off → answers c s h u .badMode [] s0) ∧
    (s0.modes.mode = .off → (s0.planner.build ≠ none ∨ s0.image.save ≠ none ∨ s0.tables.commitPending = true) →
      answers c s h u .busy [] s0)

/-! ### The Wind Estimator -/

/-- R49: the estimates stay in their ranges at every step. -/
def Obligations.EveryStepKeepsEstimateInRange : Prop :=
  ∀ s t : State, estimateInRange s → step s = .next t → estimateInRange t

/-- R41-R48, R50-R53, R56: a reference sample with no usable speed changes nothing. On an INVALID estimate a usable direction
seeds it, and a sample without one seeds nothing. On a VALID one the speed moves by β/256 of its difference and the direction,
where it is usable, by α/256 of the wrapped difference, both rounded half away from zero, unless it is an outlier: the
eighth re-seeds. A sample that leaves the estimate VALID restarts the freshness timer, sets the candidates with their
hysteresis and, in LIVE and DRY, evaluates the dwell. -/
def Obligations.ReferenceSampleMovesTheEstimate : Prop :=
  ∀ (s : State) (r : ReferenceArrival), s.powered = true →
    (r.speed = none → exec (.referenceSample r) s = .next s) ∧
    (∀ raw c, r.speed = some raw → c = min 400 ((2 * (raw * r.gain) + 4096) / 8192) → estimateInRange s →
      ∃ t, exec (.referenceSample r) s = .next t ∧ t = { s with wind := t.wind } ∧
        t.wind.lastReference = some (r.turbine, r.time) ∧ t.wind.params = s.wind.params ∧
        t.wind.modeIn = s.wind.modeIn ∧
        (s.wind.valid = false → (c < 10 ∨ r.direction = none) →
          t.wind = { s.wind with lastReference := some (r.turbine, r.time) }) ∧
        (∀ a d : Nat, r.direction = some a → 10 ≤ c → (d : Int) = ((a : Int) + r.offset) % 3600 →
          (s.wind.valid = false → t.wind.direction = d ∧ t.wind.speed = c ∧ t.wind.outlierRun = 0) ∧
          (∀ (x : Int) (k : Nat), s.wind.valid = true → -1799 ≤ x → x ≤ 1800 →
            (x - ((d : Int) - s.wind.direction)) % 3600 = 0 → k = (2 * x.natAbs * s.wind.params.alpha + 256) / 512 →
            (x.natAbs ≤ s.wind.params.outlierLimit → t.wind.outlierRun = 0 ∧
              (t.wind.direction : Int) = (s.wind.direction + (if x < 0 then -(k : Int) else k)) % 3600) ∧
            (s.wind.params.outlierLimit < x.natAbs → s.wind.outlierRun < 7 →
              t.wind.direction = s.wind.direction ∧ t.wind.outlierRun = s.wind.outlierRun + 1) ∧
            (s.wind.params.outlierLimit < x.natAbs → s.wind.outlierRun = 7 →
              t.wind.direction = d ∧ t.wind.outlierRun = 0))) ∧
        (s.wind.valid = true → (c < 10 ∨ r.direction = none) →
          t.wind.direction = s.wind.direction ∧ t.wind.outlierRun = s.wind.outlierRun) ∧
        (∀ k : Nat, s.wind.valid = true →
          k = (2 * ((c : Int) - s.wind.speed).natAbs * s.wind.params.beta + 256) / 512 →
          (t.wind.speed : Int) = s.wind.speed + (if c < s.wind.speed then -(k : Int) else k)) ∧
        ((s.wind.valid = true ∨ 10 ≤ c ∧ r.direction ≠ none) →
          t.wind.valid = true ∧ t.wind.freshness = some (s.clock + s.wind.params.wRef) ∧
          (∀ w q, w = 3600 / s.wind.params.sectors → q = ((t.wind.direction + w / 2) % 3600) / w →
            (s.wind.candidateSector = none → t.wind.candidateSector = some q) ∧
            (∀ k, s.wind.candidateSector = some k →
              (q = k → t.wind.candidateSector = some k) ∧
              (∀ far : Prop, (far ↔ ∀ e, e = (k * w + 3600 - w / 2) % 3600 ∨ e = (k * w + w / 2) % 3600 →
                  s.wind.params.hysteresis ≤ min ((t.wind.direction : Int) - e).natAbs
                    (3600 - ((t.wind.direction : Int) - e).natAbs)) →
                (q ≠ k → far → t.wind.candidateSector = some q) ∧
                (q ≠ k → ¬ far → t.wind.candidateSector = some k)))) ∧
          (s.wind.candidateBand = none → t.wind.candidateBand =
            some (s.wind.params.thresholds.countP (fun x => decide (x ≤ t.wind.speed)))) ∧
          (∀ b, s.wind.candidateBand = some b →
            (∀ k, b < k → k < 8 → s.wind.params.thresholds.getD (k - 1) 0 + s.wind.params.hs ≤ t.wind.speed →
              (∀ j, k < j → j < 8 → t.wind.speed < s.wind.params.thresholds.getD (j - 1) 0 + s.wind.params.hs) →
              t.wind.candidateBand = some k) ∧
            ((∀ k, b < k → k < 8 → t.wind.speed < s.wind.params.thresholds.getD (k - 1) 0 + s.wind.params.hs) →
              (∀ k, k < b → k < 8 → t.wind.speed + s.wind.params.hs < s.wind.params.thresholds.getD k 0 →
                (∀ j, j < k → s.wind.params.thresholds.getD j 0 ≤ t.wind.speed + s.wind.params.hs) →
                t.wind.candidateBand = some k) ∧
              ((∀ k, k < b → k < 8 → s.wind.params.thresholds.getD k 0 ≤ t.wind.speed + s.wind.params.hs) →
                t.wind.candidateBand = some b))) ∧
          (¬ inSteering s.wind.modeIn →
            t.wind.dwellTimer = s.wind.dwellTimer ∧ t.wind.dwellPair = s.wind.dwellPair) ∧
          (∀ p : Pair, inSteering s.wind.modeIn → t.wind.candidateSector = some p.sector →
            t.wind.candidateBand = some p.band →
            (s.gate.steered = some p → t.wind.dwellTimer = none ∧ t.wind.dwellPair = none) ∧
            (∀ st, s.gate.steered ≠ some p → s.wind.dwellPair = some ⟨p, st⟩ →
              t.wind.dwellTimer = s.wind.dwellTimer ∧ t.wind.dwellPair = s.wind.dwellPair) ∧
            (s.gate.steered ≠ some p → (∀ st, s.wind.dwellPair ≠ some ⟨p, st⟩) →
              t.wind.dwellTimer = some (s.clock + s.wind.params.dwell) ∧
              t.wind.dwellPair = some ⟨p, false⟩))))

/-- R50, R57: the freshness expiry makes the estimate INVALID with its values held and clears candidates and dwell; the
dwell expiry triggers the dwell pair, which becomes SPENT. R58, R59: entry to OFF or UNWIND clears the dwell; entry to LIVE
or DRY triggers the candidate pair of a VALID estimate and nothing otherwise. That the Estimator takes the reports of changes of
mode in the order they were made is log entry 43's reading, and that an expiry lets the timer's remaining seconds pass first log
entry 1's choice. -/
def Obligations.EstimatorTakesTimersAndModes : Prop :=
  (∀ (s : State) (d : Nat), s.powered = true →
    (s.wind.freshness = some d →
      exec .freshnessExpiry s = .next { s.elapse (d - s.clock) with wind := { s.wind with
        valid := false, outlierRun := 0, freshness := none, candidateSector := none, candidateBand := none,
        dwellTimer := none, dwellPair := none } }) ∧
    (∀ p, s.wind.dwellTimer = some d → s.wind.dwellPair = some p →
      exec .dwellExpiry s = .next { s.elapse (d - s.clock) with
        wind := { s.wind with dwellTimer := none, dwellPair := some ⟨p.pair, true⟩ }
        reports := s.reports ++ [.retargetTrigger p.pair] })) ∧
  (∀ (s : State) (m x : Mode) (first mid : List Instr), s.powered = true →
    standsAhead (.estimatorModeChange m) s.reports (first ++ .estimatorModeChange x :: mid) →
    (∀ y ∈ first, modeToEstimator y = false) → ∃ u, exec (.estimatorModeChange x) s = .next u ∧
      s.reports.erase (.estimatorModeChange x) <+: u.reports ∧
      exec (.estimatorModeChange m) s = exec (.estimatorModeChange m) u) ∧
  (∀ (s : State) (m : Mode), s.powered = true → inPlace modeToEstimator (.estimatorModeChange m) s.reports →
    ((m = .off ∨ m = .unwind) → exec (.estimatorModeChange m) s = .next { s with
      wind := { s.wind with modeIn := m, dwellTimer := none, dwellPair := none }
      reports := s.reports.erase (.estimatorModeChange m) }) ∧
    ((m = .live ∨ m = .dry) → s.wind.valid = false → exec (.estimatorModeChange m) s = .next { s with
      wind := { s.wind with modeIn := m }, reports := s.reports.erase (.estimatorModeChange m) }) ∧
    (∀ a b, (m = .live ∨ m = .dry) → s.wind.valid = true → s.wind.candidateSector = some a →
      s.wind.candidateBand = some b → exec (.estimatorModeChange m) s = .next { s with
        wind := { s.wind with modeIn := m, dwellTimer := none, dwellPair := some ⟨⟨a, b⟩, true⟩ }
        reports := s.reports.erase (.estimatorModeChange m) ++ [.retargetTrigger ⟨a, b⟩] }))

/-- R63: SET_SECTORS in OFF with no build, no save and no PENDING commit (the last is log entry 42's reading) sets S, marks
the active bank INVALID, and requantizes the candidate sector of a VALID estimate without hysteresis. That the Estimator and the
Planner have taken the reports of the mode by then (`modesSettled`), so that no dwell runs, is log entry 52's reading. -/
def Obligations.SetSectorsRequantizes : Prop :=
  ∀ (s s0 v : State) (h : ReqHead) (n : Nat), s.handsOver (.setSectors h (some n)) h 2 s0 → modesSettled s0 v →
    s0.modes.mode = .off → s0.planner.build = none → s0.image.save = none → s0.tables.commitPending = false →
    ((n = 12 ∨ n = 24 ∨ n = 36) → answers (.setSectors h (some n)) s h 2 .ok []
      { v with tables := { v.tables with valid := false }, wind := { v.wind with
        params := { s0.wind.params with sectors := n }
        candidateSector := if s0.wind.valid = true then
            some (((s0.wind.direction + 3600 / n / 2) % 3600) / (3600 / n)) else s0.wind.candidateSector } }) ∧
    (n ≠ 12 → n ≠ 24 → n ≠ 36 → answers (.setSectors h (some n)) s h 2 .badArg [] s0)

/-! ### The Table Store -/

/-- R69, R70, R71: WRITE_OFFSETS waits for a refill and for a pending commit, and otherwise stores its values, saturated to
-300..300, at the slots of one page of the shadow bank in list order with the wrap from slot 63 to slot 0, the last value for
a slot standing; every other entry, the active bank among them, is as before. -/
def Obligations.WriteOffsetsStoreTheRun : Prop :=
  ∀ (s s0 : State) (h : ReqHead) (x : WriteOffsetsArgs), s.handsOver (.writeOffsets h (some x)) h 3 s0 →
    (s0.tables.refill ≠ none → answers (.writeOffsets h (some x)) s h 3 .busy [] s0) ∧
    (s0.tables.refill = none → s0.tables.commitPending = true →
      answers (.writeOffsets h (some x)) s h 3 .frozen [] s0) ∧
    (s0.tables.refill = none → s0.tables.commitPending = false →
      if x.sector < s0.wind.params.sectors ∧ x.band < 8 ∧ x.page < 4 ∧ x.start < 64 ∧ 1 ≤ x.count ∧ x.count ≤ 128 ∧
          x.values.length = x.count then
        ∃ k : Bank, answers (.writeOffsets h (some x)) s h 3 .ok []
            { s0 with tables := s0.tables.setBank s0.tables.shadow k } ∧
          k.sectors = (s0.tables.bank s0.tables.shadow).sectors ∧
          (∀ i, i < x.count → (∀ j, i < j → j < x.count → (x.start + j) % 64 ≠ (x.start + i) % 64) →
            k.offset x.sector x.band (64 * x.page + (x.start + i) % 64) = clamp (-300) 300 (x.values.getD i 0)) ∧
          (∀ n b t, b < 8 → t < 256 → (n ≠ x.sector ∨ b ≠ x.band ∨
              ∀ i, i < x.count → t ≠ 64 * x.page + (x.start + i) % 64) →
            k.offset n b t = (s0.tables.bank s0.tables.shadow).offset n b t)
      else answers (.writeOffsets h (some x)) s h 3 .badArg [] s0)

/-- R72, with the checks of R70: WRITE_SECTOR replaces the record's row order and spacing list in the shadow bank whole, and
refuses with BAD_ARG what the rule lists; it is not checked against the Fleet Table. -/
def Obligations.WriteSectorReplacesTheRecord : Prop :=
  ∀ (s s0 : State) (h : ReqHead) (x : WriteSectorArgs), s.handsOver (.writeSector h (some x)) h 3 s0 →
    (s0.tables.refill ≠ none → answers (.writeSector h (some x)) s h 3 .busy [] s0) ∧
    (s0.tables.refill = none → s0.tables.commitPending = true →
      answers (.writeSector h (some x)) s h 3 .frozen [] s0) ∧
    (s0.tables.refill = none → s0.tables.commitPending = false →
      if x.sector < s0.wind.params.sectors ∧ 1 ≤ x.order.length ∧ x.order.length ≤ 16 ∧ (∀ r ∈ x.order, r ≤ 15) ∧
          x.spacings.length + 1 = x.order.length ∧ (∀ y ∈ x.spacings, 100 ≤ y ∧ y ≤ 3000) then
        ∃ k : Bank, answers (.writeSector h (some x)) s h 3 .ok []
            { s0 with tables := s0.tables.setBank s0.tables.shadow k } ∧
          k.offsets = (s0.tables.bank s0.tables.shadow).offsets ∧ k.sector x.sector = ⟨x.order, x.spacings⟩ ∧
          ∀ n, n ≠ x.sector → k.sector n = (s0.tables.bank s0.tables.shadow).sector n
      else answers (.writeSector h (some x)) s h 3 .badArg [] s0)

/-- R76, R75, R78, R80: COMMIT answers BUSY during a refill and PENDING while one is pending; it validates the shadow and
answers the first failing sector, swaps at once when the swap conditions hold, and otherwise becomes PENDING. CANCEL_COMMIT
withdraws a pending commit and tells the Planner; with none pending nothing changes. That the Planner has the report of
PENDING within COMMIT's event, every earlier report of the contrary being withdrawn, is log entry 20's choice. -/
def Obligations.CommitValidatesAndSwaps : Prop :=
  ∀ (s s0 : State) (h : ReqHead),
    (s.handsOver (.commit h (some ())) h 3 s0 →
      (s0.tables.refill ≠ none → answers (.commit h (some ())) s h 3 .busy [] s0) ∧
      (s0.tables.refill = none → s0.tables.commitPending = true →
        answers (.commit h (some ())) s h 3 .pending [] s0) ∧
      (s0.tables.refill = none → s0.tables.commitPending = false →
        (∀ k, k < s0.wind.params.sectors → ¬ sectorValid s0 ((s0.tables.bank s0.tables.shadow).sector k) →
          (∀ j, j < k → sectorValid s0 ((s0.tables.bank s0.tables.shadow).sector j)) →
          answers (.commit h (some ())) s h 3 .invalidTables (u16 k) s0) ∧
        ((∀ k, k < s0.wind.params.sectors → sectorValid s0 ((s0.tables.bank s0.tables.shadow).sector k)) →
          if s0.tables.planInstalled = false ∧ s0.tables.plannerBuilding = false ∧ s0.tables.saveInProgress = false then
            answers (.commit h (some ())) s h 3 .ok [] { s0 with
              tables := { s0.tables with
                active := s0.tables.shadow, valid := true, refill := some ⟨some (false, s0.now)⟩ }
              reports := s0.reports ++ [.commitStateReport false] }
          else answers (.commit h (some ())) s h 3 .pending [] { s0 with
              tables := { s0.tables with commitPending := true }
              planner := { s0.planner with commitIn := true }
              reports := s0.reports.filter (fun c => decide (c ≠ .commitStateReport false)) }))) ∧
    (s.handsOver (.cancelCommit h (some ())) h 3 s0 →
      if s0.tables.commitPending = true then
        answers (.cancelCommit h (some ())) s h 3 .ok [] { s0 with
          tables := { s0.tables with commitPending := false }, reports := s0.reports ++ [.commitStateReport false] }
      else answers (.cancelCommit h (some ())) s h 3 .ok [] s0)

/-- R77, R78, R82: a swap-condition report sets its own input, and where it leaves all three conditions holding a pending
commit swaps, deferred, at that event. Where a report of the Gate stands ahead that must be taken first, the first such is
taken before it: "plan installed: yes" before "Planner building: no" (R77), and the Gate's reports in the order they were made
(log entry 48's reading). A refill's completion makes the shadow a copy of the active bank and sends BANK_SWAPPED when it
followed a swap. -/
def Obligations.ReportsSwapAndRefillCopies : Prop :=
  (∀ (s : State) (r : SwapInput) (x : Bool) (first mid : List Instr), s.powered = true →
    standsAhead (.swapConditionReport r) s.reports (first ++ .swapConditionReport (.planInstalled x) :: mid) →
    (∀ y, .swapConditionReport (.planInstalled y) ∉ first) →
    standsBehind r (first ++ .swapConditionReport (.planInstalled x) :: mid) →
    ∃ u, exec (.swapConditionReport (.planInstalled x)) s = .next u ∧
      s.reports.erase (.swapConditionReport (.planInstalled x)) <+: u.reports ∧
      exec (.swapConditionReport r) s = exec (.swapConditionReport r) u) ∧
  (∀ (s : State) (r : SwapInput) (p b v : Bool), s.powered = true →
    (∀ before, standsAhead (.swapConditionReport r) s.reports before → ¬ standsBehind r before) →
    p = (match r with | .planInstalled x => x | _ => s.tables.planInstalled) →
    b = (match r with | .plannerBuilding x => x | _ => s.tables.plannerBuilding) →
    v = (match r with | .saveInProgress x => x | _ => s.tables.saveInProgress) →
    exec (.swapConditionReport r) s = .next
      (if s.tables.commitPending = true ∧ p = false ∧ b = false ∧ v = false then
        { s with
          tables := { s.tables with
            planInstalled := p, plannerBuilding := b, saveInProgress := v, active := s.tables.shadow, valid := true,
            commitPending := false, refill := some ⟨some (true, s.now)⟩ }
          reports := s.reports.erase (.swapConditionReport r) ++ [.commitStateReport false] }
      else { s with
          tables := { s.tables with planInstalled := p, plannerBuilding := b, saveInProgress := v }
          reports := s.reports.erase (.swapConditionReport r) })) ∧
  (∀ (s : State) (r : Refill), s.powered = true → s.tables.refill = some r →
    ∃ t, exec .refillCompletion s = .next t ∧ t = { s with tables := t.tables, notices := t.notices } ∧
      t.tables = { s.tables.setBank s.tables.shadow s.tables.activeBank with refill := none } ∧
      (r.afterSwap = none → t.notices = s.notices) ∧
      (∀ deferred second, r.afterSwap = some (deferred, second) →
        t.notices = s.notices ++ [.bankSwapped s.tables.active deferred second]))

/-! ### The Planner -/

/-- R86, R87, R88: a trigger is latched in place of any pair latched; at a trigger, at a hold report, at a commit report and
at a report of mode LIVE or DRY a retarget build starts exactly when a pair is latched, no build runs, the mode input is LIVE
or DRY, hold is not in effect and no commit is pending; it takes the pair and reads the speed, the sector's trim and the
parameters. A report of a mode has no other to the Planner ahead of it; the others are taken first (PlannerAbandonsOnModeReport).
That a start overtakes the report of an earlier build's end, and that a completion report still under way is taken before the trim
is read, settling it (R153), are log entry 20's choices. -/
def Obligations.TriggersAreLatchedAndBuilt : Prop :=
  ∀ (s : State) (c : Instr) (q : Planner), s.powered = true →
    ((∃ p, c = .retargetTrigger p ∧ q = { s.planner with latch := some p }) ∨
      (∃ b, c = .holdReport b ∧ q = { s.planner with holdIn := b }) ∨
      (∃ b, c = .commitStateReport b ∧ q = { s.planner with commitIn := b }) ∨
      (∃ m, (m = .live ∨ m = .dry) ∧ c = .plannerModeChange m ∧ inPlace modeToPlanner c s.reports ∧
        q = { s.planner with modeIn := m })) →
    (∀ p, q.latch = some p → q.build = none → inSteering q.modeIn → q.holdIn = false → q.commitIn = false →
      ∃ v t, trimsSettled { s with planner := q, reports := s.reports.erase c } v ∧
        v = { s with planner := q, monitor := v.monitor, reports := v.reports, notices := v.notices } ∧
        exec c s = .next t ∧ t = { v with planner := t.planner, tables := t.tables, reports := t.reports } ∧
        t.planner = { q with
          latch := none
          build := some ⟨.retarget, p, ⟨s.wind.speed, v.monitor.trim p.sector, q.params.gapMin, q.params.gapMax,
            q.params.floor, q.params.biasLimit⟩⟩ } ∧
        t.tables = { s.tables with plannerBuilding := true } ∧
        t.reports = v.reports.erase (.swapConditionReport (.plannerBuilding false))) ∧
    ((q.latch = none ∨ q.build ≠ none ∨ ¬ inSteering q.modeIn ∨ q.holdIn = true ∨ q.commitIn = true) →
      exec c s = .next { s with planner := q, reports := s.reports.erase c })

/-- R101, R105: entry to OFF or UNWIND empties the latch and abandons a retarget build; a preview is abandoned by UNWIND alone, its
request answered BAD_MODE, and runs on in OFF. R86: a latched pair leaves the latch in three ways only: a build for it starts, a
report of OFF or UNWIND is taken, or the part is reset or restarted; a later trigger's pair replaces it. That the Planner takes
the reports of changes of mode in the order they were made is log entry 43's reading, and that those under way are taken at a
geometry request log entry 52's. -/
def Obligations.PlannerAbandonsOnModeReport : Prop :=
  (∀ (s t : State) (c : Instr) (p : Pair), exec c s = .next t → s.planner.latch = some p → t.planner.latch = some p ∨
    (t.planner.latch = none ∧ ∃ b, t.planner.build = some b ∧ b.kind = .retarget ∧ b.pair = p) ∨
    (∃ q, c = .retargetTrigger q) ∨
    (∃ m, (m = .off ∨ m = .unwind) ∧ (c = .plannerModeChange m ∨ .plannerModeChange m ∈ s.reports) ∧
      ((∃ x, c = .plannerModeChange x) ∨ (∃ h a, c = .setTurbine h a) ∨ (∃ h a, c = .clearTurbine h a) ∨
        (∃ h a, c = .setRow h a) ∨ ∃ h a, c = .setSectors h a)) ∨
    c = .resetAssertion ∨ (s.powered = false ∧ ∃ a x y, c = .startUp a x y) ∨
    (∃ port x, c = .transmissionEnd port ∧ (s.line.port port).transmission = some x ∧ x.restartReply = true)) ∧
  (∀ (s : State) (m x : Mode) (first mid : List Instr), s.powered = true →
    standsAhead (.plannerModeChange m) s.reports (first ++ .plannerModeChange x :: mid) →
    (∀ y ∈ first, modeToPlanner y = false) → ∃ u, exec (.plannerModeChange x) s = .next u ∧
      u.reports.filter modeToPlanner = (s.reports.erase (.plannerModeChange x)).filter modeToPlanner ∧
      exec (.plannerModeChange m) s = exec (.plannerModeChange m) u) ∧
  ∀ (s : State) (m : Mode), s.powered = true → inPlace modeToPlanner (.plannerModeChange m) s.reports →
    (m = .off ∨ m = .unwind) →
    (s.planner.build = none → exec (.plannerModeChange m) s = .next { s with
      planner := { s.planner with modeIn := m, latch := none }, reports := s.reports.erase (.plannerModeChange m) }) ∧
    (∀ b, s.planner.build = some b → b.kind = .retarget → exec (.plannerModeChange m) s = .next { s with
      planner := { s.planner with modeIn := m, latch := none, build := none }
      reports := s.reports.erase (.plannerModeChange m) ++ [.swapConditionReport (.plannerBuilding false)] }) ∧
    (∀ b, s.planner.build = some b → b.kind = .preview →
      (m = .off → exec (.plannerModeChange m) s = .next { s with
        planner := { s.planner with modeIn := m, latch := none }, reports := s.reports.erase (.plannerModeChange m) }) ∧
      (∀ h, m = .unwind → s.dispatcher.plannerLate = some h →
        ∃ t x, exec (.plannerModeChange m) s = .next t ∧
          x = State.answer h 4 .badMode [] { s with
            planner := { s.planner with modeIn := m, latch := none }
            reports := s.reports.erase (.plannerModeChange m)
            dispatcher := { s.dispatcher with plannerLate := none } } ∧
          t = { x with
            planner := { x.planner with build := none }
            reports := x.reports ++ [.swapConditionReport (.plannerBuilding false)] } ∧
          t.planner = { s.planner with modeIn := m, latch := none, build := none } ∧
          t.dispatcher.plannerLate = none ∧ .swapConditionReport (.plannerBuilding false) ∈ t.reports ∧
          t.gate.components = s.gate.components ∧ t.gate.ring = s.gate.ring ∧ t.tables = s.tables))

/-- R103: PREVIEW is checked in its order and refused at once, or starts a preview build that empties the preview area,
keeps the latch and leaves the PLANNER unit busy until it ends. That a start overtakes the report of an earlier build's end,
and that a completion report still under way is taken before the trim is read, settling it (R153), are log entry 20's
choices. -/
def Obligations.PreviewStartsABuild : Prop :=
  ∀ (s s0 : State) (h : ReqHead) (p : Pair), s.handsOver (.preview h (some p)) h 4 s0 →
    (s0.planner.build ≠ none → answers (.preview h (some p)) s h 4 .busy [] s0) ∧
    (s0.planner.build = none → s0.modes.mode = .unwind → answers (.preview h (some p)) s h 4 .badMode [] s0) ∧
    (s0.planner.build = none → s0.modes.mode ≠ .unwind → (s0.wind.params.sectors ≤ p.sector ∨ 8 ≤ p.band) →
      answers (.preview h (some p)) s h 4 .badArg [] s0) ∧
    (s0.planner.build = none → s0.modes.mode ≠ .unwind → p.sector < s0.wind.params.sectors → p.band < 8 →
      (s0.planner.commitIn = true → answers (.preview h (some p)) s h 4 .pending [] s0) ∧
      (s0.planner.commitIn = false → s0.tables.valid = false → answers (.preview h (some p)) s h 4 .noTables [] s0) ∧
      (s0.planner.commitIn = false → s0.tables.valid = true →
        ∃ v u, trimsSettled s0 v ∧ v = { s0 with monitor := v.monitor, reports := v.reports, notices := v.notices } ∧
          exec (.preview h (some p)) s = .next u ∧
          u = { v with
            planner := { s0.planner with
              preview := none
              build := some ⟨.preview, p, ⟨s0.wind.speed, v.monitor.trim p.sector, s0.planner.params.gapMin,
                s0.planner.params.gapMax, s0.planner.params.floor, s0.planner.params.biasLimit⟩⟩ }
            tables := { s0.tables with plannerBuilding := true }
            dispatcher := { s0.dispatcher with plannerLate := some h }
            reports := v.reports.erase (.swapConditionReport (.plannerBuilding false)) }))

/-- R104, R106, R87: the completion of a preview fills the preview area with one wave per row of the sector record (none for a
sector that S excludes, log entry 30's choice) and one disposition per member, ends the build, answers the request with its summary and clears the PLANNER unit's busy mark, and
changes no record, no component and no steered pair. With a pair latched and the other conditions of R87 met, the retarget
build of that pair starts within it; that its trim is settled first is log entry 20's choice. READ_PREVIEW is BUSY during a
build and then returns the wave it names. The result bytes are the model's encodings (log entries 7 and 37). -/
def Obligations.PreviewCompletesAndIsRead : Prop :=
  (∀ (s : State) (b : Build), s.powered = true → s.planner.build = some b → b.kind = .preview →
    ∃ t p u, exec .previewCompletion s = .next t ∧ u.planner = { s.planner with preview := some p, build := none } ∧
      u.dispatcher.plannerLate = none ∧ u.tables = s.tables ∧ onlyEgress { s with
        planner := u.planner, dispatcher := { s.dispatcher with plannerLate := none } } u ∧
      .swapConditionReport (.plannerBuilding false) ∈ u.reports ∧
      (s.dispatcher.plannerLate = none → u = { s with
        planner := u.planner, reports := s.reports ++ [.swapConditionReport (.plannerBuilding false)] }) ∧
      (∀ h x, s.dispatcher.plannerLate = some h → x = State.answer h 4 .ok p.summary { s with
          planner := { s.planner with preview := some p }
          dispatcher := { s.dispatcher with plannerLate := none } } →
        u = { x with
          planner := u.planner, reports := x.reports ++ [.swapConditionReport (.plannerBuilding false)] }) ∧
      ((s.planner.latch = none ∨ ¬ inSteering s.planner.modeIn ∨ s.planner.holdIn = true ∨ s.planner.commitIn = true) →
        t = u) ∧
      (∀ q, s.planner.latch = some q → inSteering s.planner.modeIn → s.planner.holdIn = false →
        s.planner.commitIn = false → ∃ v, trimsSettled u v ∧
          v = { u with monitor := v.monitor, reports := v.reports, notices := v.notices } ∧
          t = { v with
            planner := { u.planner with
              latch := none
              build := some ⟨.retarget, q, ⟨s.wind.speed, v.monitor.trim q.sector, s.planner.params.gapMin,
                s.planner.params.gapMax, s.planner.params.floor, s.planner.params.biasLimit⟩⟩ }
            tables := { s.tables with plannerBuilding := true }
            reports := v.reports.erase (.swapConditionReport (.plannerBuilding false)) }) ∧
      p.pair = b.pair ∧ p.speed = b.inputs.speed ∧ p.trim = b.inputs.trim ∧ p.second = s.now ∧
      p.waves.map (fun w => (w.row, w.offset, w.delay)) =
        (schedule b.inputs (if b.pair.sector < s.wind.params.sectors then s.tables.activeBank.sector b.pair.sector
          else .zeroed)).map (fun w => (w.row, w.offset, w.delay)) ∧
      ∀ w ∈ p.waves, w.members.map (·.turbine) = (s.fleet.row w.row).members ∧ ∀ m ∈ w.members,
        m.target = clamp (-(b.inputs.biasLimit : Int)) b.inputs.biasLimit
          (s.tables.activeBank.offset b.pair.sector b.pair.band m.turbine) ∧
        ((s.fleet.dynamic m.turbine).availability = .fault → m.disposition = .unavailable) ∧
        ((s.fleet.dynamic m.turbine).availability ≠ .fault →
          (m.target - s.gate.component m.turbine).natAbs ≤ s.planner.params.deadband → m.disposition = .noMove) ∧
        ((s.fleet.dynamic m.turbine).availability ≠ .fault →
          s.planner.params.deadband < (m.target - s.gate.component m.turbine).natAbs →
          m.disposition = .move (s.gate.component m.turbine)
            (ceilDiv (m.target - s.gate.component m.turbine).natAbs s.planner.params.maxStep))) ∧
  (∀ (s s0 : State) (h : ReqHead) (i : Nat), s.handsOver (.readPreview h (some i)) h 4 s0 →
    (s0.planner.build ≠ none → answers (.readPreview h (some i)) s h 4 .busy [] s0) ∧
    (s0.planner.build = none → 15 < i → answers (.readPreview h (some i)) s h 4 .badArg [] s0) ∧
    (s0.planner.build = none → i ≤ 15 → s0.planner.preview = none →
      answers (.readPreview h (some i)) s h 4 .ok [0#8] s0) ∧
    (∀ p, s0.planner.build = none → i ≤ 15 → s0.planner.preview = some p →
      (p.waves[i]? = none → answers (.readPreview h (some i)) s h 4 .badArg [] s0) ∧
      (∀ w, p.waves[i]? = some w →
        answers (.readPreview h (some i)) s h 4 .ok (1#8 :: previewWaveResult p w) s0)))

/-- R108: SET_PLAN_PARAMS is BUSY during a build, BAD_ARG out of range, BAD_MODE where it would change L outside OFF, and
otherwise replaces every value together. R60, R107: RETARGET triggers the candidate pair of a VALID estimate in LIVE and DRY
and answers that pair. -/
def Obligations.PlanParamsAndRetarget : Prop :=
  (∀ (s s0 : State) (h : ReqHead) (p : PlanParams), s.handsOver (.setPlanParams h (some p)) h 4 s0 →
    if s0.planner.build ≠ none then answers (.setPlanParams h (some p)) s h 4 .busy [] s0
    else if ¬ (50 ≤ p.biasLimit ∧ p.biasLimit ≤ 300 ∧ 10 ≤ p.maxStep ∧ p.maxStep ≤ 100 ∧ p.deadband ≤ 20 ∧
        10 ≤ p.gapMin ∧ p.gapMin ≤ p.gapMax ∧ p.gapMax ≤ 900 ∧ 20 ≤ p.floor ∧ p.floor ≤ 80 ∧ 1 ≤ p.yawRate ∧
        p.yawRate ≤ 20 ∧ 1 ≤ p.settleTol ∧ p.settleTol ≤ 30 ∧ 10 ≤ p.settleMargin ∧ p.settleMargin ≤ 600 ∧
        1 ≤ p.failureLimit ∧ p.failureLimit ≤ 16 ∧ 5 ≤ p.refresh ∧ p.refresh ≤ 120) then
      answers (.setPlanParams h (some p)) s h 4 .badArg [] s0
    else if s0.modes.mode ≠ .off ∧ p.biasLimit ≠ s0.planner.params.biasLimit then
      answers (.setPlanParams h (some p)) s h 4 .badMode [] s0
    else answers (.setPlanParams h (some p)) s h 4 .ok [] { s0 with planner := { s0.planner with params := p } }) ∧
  (∀ (s s0 : State) (h : ReqHead), s.handsOver (.retarget h (some ())) h 4 s0 →
    (s0.planner.build ≠ none → answers (.retarget h (some ())) s h 4 .busy [] s0) ∧
    (s0.planner.build = none → ¬ inSteering s0.modes.mode → answers (.retarget h (some ())) s h 4 .badMode [] s0) ∧
    (s0.planner.build = none → inSteering s0.modes.mode → s0.wind.valid = false →
      answers (.retarget h (some ())) s h 4 .noEstimate [] s0) ∧
    (∀ a b, s0.planner.build = none → inSteering s0.modes.mode → s0.wind.valid = true →
      s0.wind.candidateSector = some a → s0.wind.candidateBand = some b →
      answers (.retarget h (some ())) s h 4 .ok (u16 a ++ u16 b) { s0 with
        wind := { s0.wind with dwellTimer := none, dwellPair := some ⟨⟨a, b⟩, true⟩ }
        reports := s0.reports ++ [.retargetTrigger ⟨a, b⟩] }))

/-- R91, with the raw delay of R90: the waves follow the row order; wave 0 is released at 0 and has no predicted delay; each
later wave follows the one before it by its delay, the raw delay (half up) clamped to gap_min..gap_max, so that with at most
16 rows and a gap_max of at most 900 no release offset exceeds 13500. -/
def Obligations.ScheduleGapsStayInRange : Prop :=
  ∀ (i : BuildInputs) (x : SectorRecord), i.gapMin ≤ i.gapMax → x.spacings.length + 1 = x.order.length →
    (schedule i x).map (·.row) = x.order ∧
    (∀ w, (schedule i x)[0]? = some w → w.offset = 0 ∧ w.delay = none) ∧
    (∀ k a b y, (schedule i x)[k]? = some a → (schedule i x)[k + 1]? = some b → x.spacings[k]? = some y →
      ∃ d, b.delay = some d ∧ b.offset = a.offset + d ∧ i.gapMin ≤ d ∧ d ≤ i.gapMax ∧
        d = max i.gapMin (min i.gapMax
          ((2 * (y * 10 * i.trim) + max i.speed i.floor * 64) / (2 * (max i.speed i.floor * 64))))) ∧
    (x.order.length ≤ 16 → i.gapMax ≤ 900 → ∀ w ∈ schedule i x, w.offset ≤ 13500)

/-- R98: taken segment by segment from its from-value, a move reaches its target after exactly ceil(|Δ| / M) segments, and no
segment is longer than M. -/
def Obligations.SegmentsReachTheTarget : Prop :=
  ∀ (m : Nat) (source target : Int), 0 < m →
    (∀ d : Int, (signedStep m d).natAbs = min m d.natAbs ∧ (d - signedStep m d).natAbs = d.natAbs - min m d.natAbs) ∧
    Nat.repeat (fun c : Int => c + signedStep m (target - c)) (((target - source).natAbs + m - 1) / m) source = target ∧
    ∀ k, k < ((target - source).natAbs + m - 1) / m →
      Nat.repeat (fun c : Int => c + signedStep m (target - c)) k source ≠ target

/-! ### The Release Gate -/

/-- R93-R95, R97, R111: the install numbers the plan, supersedes the installed plan (its PENDING and READY records finish
SUPERSEDED without a cause and leave the ready queue, its segments take fate SUPERSEDED), creates the records of R95 in order,
puts wave 0's PENDING ones at the tail of the normal ready queue, moves the steered pair and no component, makes the reports
and notices of R97, and ends the build; with a pair latched and the other conditions of R87 met the next build starts within it,
reading its inputs as R88 says, its trim settled first (log entry 20's choice). The new plan is installed, unless it has at most
one wave and no unfinished record: it is then COMPLETE at once. For a sector that S excludes it has no wave (R66, log entry 30's
choice). The room rules out a wrap of the record numbers and of the plan number
within the ring. The order of the reports is log entry 6's choice, and that an install runs on where the Gate has taken no
entry ahead of the Planner log entry 43's reading (`State.entryTaken`). -/
def Obligations.InstallReplacesThePlan : Prop :=
  ∀ (s : State) (b : Build) (number n : Nat) (slots : List Slot) (moved : Nat → Bool) (room done : Prop),
    s.powered = true → s.planner.build = some b → b.kind = .retarget → s.entryTaken = none →
    number = (if s.gate.planCounter = 65535 then 1 else s.gate.planCounter + 1) →
    slots = schedule b.inputs (if b.pair.sector < s.wind.params.sectors then s.tables.activeBank.sector b.pair.sector
      else .zeroed) →
    (∀ i, moved i = ((s.fleet.dynamic i).availability == .fault ||
      decide (s.planner.params.deadband < (clamp (-(b.inputs.biasLimit : Int)) b.inputs.biasLimit
        (s.tables.activeBank.offset b.pair.sector b.pair.band i) - s.gate.component i).natAbs))) →
    n = (slots.map (fun w => (s.fleet.row w.row).members.countP moved)).sum →
    (room ↔ n ≤ 512 ∧ ringOrdered s ∧ s.gate.recordCounter + n ≤ 4294967295 ∧
      ∀ r ∈ s.gate.ring, r.plan ≠ number) →
    (done ↔ slots.length ≤ 1 ∧ ∀ w ∈ slots, ∀ i ∈ (s.fleet.row w.row).members, moved i = true →
      (s.fleet.dynamic i).availability = .fault) →
    ∃ t u p info, exec .install s = .next t ∧ t.gate.planCounter = number ∧
      u = { s with
        gate := t.gate, planner := { s.planner with build := none }, reports := u.reports, notices := u.notices } ∧
      t.gate.steered = some b.pair ∧ t.gate.components = s.gate.components ∧
      t.gate.flights = s.gate.flights.map (fun f =>
        if s.gate.installed ≠ none ∧ f.fate = .own then { f with fate := .superseded } else f) ∧
      p.number = number ∧ p.pair = b.pair ∧ p.speed = b.inputs.speed ∧ p.trim = b.inputs.trim ∧ p.planTime = 0 ∧
      p.failures = 0 ∧ p.nextWave = 1 ∧ p.state = (if s.gate.hold = true then .held
        else if slots.length ≤ 1 then .draining else .running) ∧
      p.waves.map (fun w => (w.row, w.offset, w.delay)) = slots.map (fun w => (w.row, w.offset, w.delay)) ∧
      p.waves.map (fun w => w.sequences.length) = slots.map (fun w => (s.fleet.row w.row).members.countP moved) ∧
      (2 ≤ slots.length ∨ room → ¬ done → t.gate.installed = some p ∧
        t.gate.last = (match s.gate.installed with
          | some o => some { o with state := .superseded }
          | none => s.gate.last)) ∧
      (room → done → t.gate.installed = none ∧ t.gate.last = some { p with state := .complete }) ∧
      info = ⟨number, b.pair, b.inputs.trim, p.waves.map (fun w => ⟨w.row, w.delay⟩),
        s.gate.installed.map (·.number)⟩ ∧
      (2 ≤ slots.length ∨ room → ¬ done → u.reports = s.reports ++ [.swapConditionReport (.planInstalled true),
        .installReport info, .swapConditionReport (.plannerBuilding false)]) ∧
      (room → done → u.reports = s.reports ++ [.swapConditionReport (.planInstalled true), .installReport info,
        .swapConditionReport (.planInstalled false), .completionReport number,
        .swapConditionReport (.plannerBuilding false)]) ∧
      ((s.planner.latch = none ∨ ¬ inSteering s.planner.modeIn ∨ s.planner.holdIn = true ∨ s.planner.commitIn = true) →
        t = u) ∧
      (∀ q, s.planner.latch = some q → inSteering s.planner.modeIn → s.planner.holdIn = false →
        s.planner.commitIn = false → ∃ v, trimsSettled u v ∧
          v = { u with monitor := v.monitor, reports := v.reports, notices := v.notices } ∧
          t = { v with
            planner := { s.planner with
              latch := none
              build := some ⟨.retarget, q, ⟨s.wind.speed, v.monitor.trim q.sector, s.planner.params.gapMin,
                s.planner.params.gapMax, s.planner.params.floor, s.planner.params.biasLimit⟩⟩ }
            tables := { s.tables with plannerBuilding := true }
            reports := v.reports.erase (.swapConditionReport (.plannerBuilding false)) }) ∧
      (room → ∃ (new : List MoveRecord) (gone : List Nat) (skips : List MoveRecord),
        gone = (s.gate.ring.filter (fun r => decide (s.gate.installed.map (·.number) = some r.plan ∧ r.cls = .normal ∧
          (r.state = .pending ∨ r.state = .ready)))).map (·.sequence) ∧
        skips = new.filter (fun r => decide (r.state = .skipped)) ∧
        t.gate.recordCounter = s.gate.recordCounter + n ∧
        t.gate.ring = (s.gate.ring.map (fun r => if r.sequence ∈ gone then { r with
          state := .superseded, cause := none, finishTime := some s.now, segmentTarget := none, grantTime := none }
          else r)).drop (s.gate.ring.length + n - 1024) ++ new ∧
        t.gate.normalQueue = s.gate.normalQueue.filter (fun q => decide (q ∉ gone)) ++
          (new.filter (fun r => decide (r.state = .ready))).map (·.sequence) ∧
        u.notices = s.notices ++
          .installed number b.pair slots.length (n - skips.length) skips.length
            (match s.gate.installed with | some o => o.number | none => 0) ::
          skips.map (fun r => .moveSkipped r.sequence r.turbine .unavailable) ++
          (if t.gate.installed = none then [.complete number b.pair 0 0 0 0 skips.length] else []) ∧
        new.map (·.sequence) = (List.range n).map (fun k => s.gate.recordCounter + 1 + k) ∧
        (p.waves.map (fun w => w.sequences)).flatten = new.map (·.sequence) ∧
        new.map (fun r => (r.wave, r.turbine)) = (slots.zipIdx.map (fun x =>
          ((s.fleet.row x.1.row).members.filter moved).map (fun i => (some x.2, i)))).flatten ∧
        ∀ r ∈ new, r.plan = number ∧ r.cls = .normal ∧ r.done = 0 ∧ r.segmentTarget = none ∧ r.grantTime = none ∧
          r.source = s.gate.component r.turbine ∧
          r.target = clamp (-(b.inputs.biasLimit : Int)) b.inputs.biasLimit
            (s.tables.activeBank.offset b.pair.sector b.pair.band r.turbine) ∧
          r.segments = (if r.target = r.source then 1
            else ((r.target - r.source).natAbs + s.planner.params.maxStep - 1) / s.planner.params.maxStep) ∧
          ((s.fleet.dynamic r.turbine).availability = .fault →
            r.state = .skipped ∧ r.cause = some .unavailable ∧ r.finishTime = some s.now) ∧
          ((s.fleet.dynamic r.turbine).availability ≠ .fault →
            r.state = (if r.wave = some 0 then .ready else .pending) ∧ r.cause = none ∧ r.finishTime = none))

/-- R168, R101: an install taken after an entry to UNWIND or OFF that the Planner has not yet taken consumes the plan number
and moves the steered pair, supersedes an installed plan and creates its records, and within the same event the plan ends
ABORTED with the entry's cause: its PENDING and READY records finish CANCELLED, cause ABORT at UNWIND and DISABLE at OFF, and
leave the ready queue. No component changes and no grant is made. A latched pair is built as after any install. Which entry
the Gate has taken ahead of the Planner is log entry 43's reading (`State.entryTaken`). The order of the reports is log entry
6's choice, and that the trim of the next build is settled first log entry 20's. The room rules out a wrap of the record
numbers and of the plan number within the ring. -/
def Obligations.InstallAfterEntryIsAborted : Prop :=
  ∀ (s : State) (b : Build) (m : Mode) (number n : Nat) (slots : List Slot) (moved : Nat → Bool), s.powered = true →
    s.planner.build = some b → b.kind = .retarget → s.entryTaken = some m →
    number = (if s.gate.planCounter = 65535 then 1 else s.gate.planCounter + 1) →
    slots = schedule b.inputs (if b.pair.sector < s.wind.params.sectors then s.tables.activeBank.sector b.pair.sector
      else .zeroed) → 2 ≤ slots.length →
    (∀ i, moved i = ((s.fleet.dynamic i).availability == .fault ||
      decide (s.planner.params.deadband < (clamp (-(b.inputs.biasLimit : Int)) b.inputs.biasLimit
        (s.tables.activeBank.offset b.pair.sector b.pair.band i) - s.gate.component i).natAbs))) →
    n = (slots.map (fun w => (s.fleet.row w.row).members.countP moved)).sum →
    ∃ t u p info, exec .install s = .next t ∧ t.gate.installed = none ∧ t.gate.last = some p ∧ p.number = number ∧
      u = { s with
        gate := t.gate, planner := { s.planner with build := none }, reports := u.reports, notices := u.notices } ∧
      p.state = .aborted ∧ p.pair = b.pair ∧ p.planTime = 0 ∧ p.failures = 0 ∧ t.gate.planCounter = number ∧
      t.gate.steered = some b.pair ∧
      p.waves.map (fun w => (w.row, w.offset, w.delay)) = slots.map (fun w => (w.row, w.offset, w.delay)) ∧
      t.gate.components = s.gate.components ∧ t.gate.flights.map (·.turbine) = s.gate.flights.map (·.turbine) ∧
      info = ⟨number, b.pair, b.inputs.trim, p.waves.map (fun w => ⟨w.row, w.delay⟩),
        s.gate.installed.map (·.number)⟩ ∧
      u.reports = s.reports ++ [.swapConditionReport (.planInstalled true), .installReport info,
        .swapConditionReport (.planInstalled false), .abortReport number,
        .swapConditionReport (.plannerBuilding false)] ∧
      u.notices.getLast? = some (.aborted number (if m = .off then .disable else .unwind) 0) ∧
      ((s.planner.latch = none ∨ ¬ inSteering s.planner.modeIn ∨ s.planner.holdIn = true ∨ s.planner.commitIn = true) →
        t = u) ∧
      (∀ q, s.planner.latch = some q → inSteering s.planner.modeIn → s.planner.holdIn = false →
        s.planner.commitIn = false → ∃ v, trimsSettled u v ∧
          v = { u with monitor := v.monitor, reports := v.reports, notices := v.notices } ∧
          t = { v with
            planner := { s.planner with
              latch := none
              build := some ⟨.retarget, q, ⟨s.wind.speed, v.monitor.trim q.sector, s.planner.params.gapMin,
                s.planner.params.gapMax, s.planner.params.floor, s.planner.params.biasLimit⟩⟩ }
            tables := { s.tables with plannerBuilding := true }
            reports := v.reports.erase (.swapConditionReport (.plannerBuilding false)) }) ∧
      (n ≤ 512 → ringOrdered s → s.gate.recordCounter + n ≤ 4294967295 → (∀ r ∈ s.gate.ring, r.plan ≠ number) →
        ∃ (new : List MoveRecord) (gone : List Nat),
          gone = (s.gate.ring.filter (fun r => decide (s.gate.installed.map (·.number) = some r.plan ∧ r.cls = .normal ∧
            (r.state = .pending ∨ r.state = .ready)))).map (·.sequence) ∧
          t.gate.recordCounter = s.gate.recordCounter + n ∧
          t.gate.ring = (s.gate.ring.map (fun r => if r.sequence ∈ gone then { r with
            state := .superseded, cause := none, finishTime := some s.now, segmentTarget := none, grantTime := none }
            else r)).drop (s.gate.ring.length + n - 1024) ++ new ∧
          t.gate.normalQueue = s.gate.normalQueue.filter (fun q => decide (q ∉ gone ∧
            ∀ r ∈ new, r.state = .cancelled → r.sequence ≠ q)) ∧
          new.map (·.sequence) = (List.range n).map (fun k => s.gate.recordCounter + 1 + k) ∧
          new.map (fun r => (r.wave, r.turbine)) = (slots.zipIdx.map (fun x =>
            ((s.fleet.row x.1.row).members.filter moved).map (fun i => (some x.2, i)))).flatten ∧
          ∀ r ∈ new, r.plan = number ∧ r.cls = .normal ∧ r.done = 0 ∧ r.segmentTarget = none ∧ r.grantTime = none ∧
            r.finishTime = some s.now ∧
            ((s.fleet.dynamic r.turbine).availability = .fault → r.state = .skipped ∧ r.cause = some .unavailable) ∧
            ((s.fleet.dynamic r.turbine).availability ≠ .fault →
              r.state = .cancelled ∧ r.cause = some (if m = .off then .disable else .abort)))

/-- R110, R111: the release of the next wave comes when plan time reaches its offset; its PENDING records become READY at the
tail of the normal ready queue in their order, next wave increases and the release is reported. The release of the last wave
makes the plan DRAINING, or leaves it HELD, and with no unfinished record of the plan it is then COMPLETE: no longer
installed, the last plan, its end reported and noticed. That the command lets plan time run up to the offset first is log
entry 1's choice, and the order of the reports log entry 6's. -/
def Obligations.WaveReleaseMakesRecordsReady : Prop :=
  ∀ (s : State) (p o : Plan) (w : Wave), s.powered = true → s.gate.installed = some p → p.waves[p.nextWave]? = some w →
    (w.offset ≤ p.planTime ∨ s.gate.hold = false) → ringDistinct s →
    o = { p with
      planTime := max p.planTime w.offset, nextWave := p.nextWave + 1
      state := if s.gate.hold = true then .held else if p.nextWave + 1 < p.waves.length then .running else .draining } →
    ∃ t added, exec .waveRelease s = .next t ∧ t.clock = s.clock + (w.offset - p.planTime) ∧
      t.gate.normalQueue = s.gate.normalQueue ++ added ∧ t.gate.urgentQueue = s.gate.urgentQueue ∧
      added.Sublist w.sequences ∧
      (∀ q, q ∈ added ↔ q ∈ w.sequences ∧ ∃ r ∈ s.gate.ring, r.sequence = q ∧ r.state = .pending) ∧
      (added ≠ [] → t.gate.scanDue = true) ∧
      t.gate.ring = s.gate.ring.map (fun r =>
        if r.sequence ∈ w.sequences ∧ r.state = .pending then { r with state := .ready, grantTime := none } else r) ∧
      t.gate.components = s.gate.components ∧ t.gate.flights = s.gate.flights ∧
      t = { s.elapse (w.offset - p.planTime) with gate := t.gate, reports := t.reports, notices := t.notices } ∧
      ((p.nextWave + 1 < p.waves.length ∨
          ∃ r ∈ s.gate.ring, r.cls = .normal ∧ r.plan = p.number ∧ r.state.finished = false) →
        t.gate.installed = some o ∧ t.gate.last = s.gate.last ∧
        t.reports = s.reports ++ [.releaseReport p.number p.nextWave] ∧ t.notices = s.notices) ∧
      (p.nextWave + 1 = p.waves.length →
        (∀ r ∈ s.gate.ring, r.cls = .normal → r.plan = p.number → r.state.finished = true) →
        t.gate.installed = none ∧ t.gate.last = some { o with state := .complete } ∧
        t.reports = s.reports ++ [.releaseReport p.number p.nextWave, .swapConditionReport (.planInstalled false),
          .completionReport p.number] ∧
        t.notices = s.notices ++ [.complete p.number p.pair o.planTime p.failures
          (s.gate.ring.countP (fun r => decide (r.cls = .normal ∧ r.plan = p.number ∧ r.state = .settled)))
          (s.gate.ring.countP (fun r => decide (r.cls = .normal ∧ r.plan = p.number ∧ r.state = .failed)))
          (s.gate.ring.countP (fun r => decide (r.cls = .normal ∧ r.plan = p.number ∧ r.state = .skipped)))])

/-- R98, R119, R120, R137: a record that waits alone, its turbine ONLINE, neither LOCKED nor FAULT and not busy, with a slot
in its class's budget, hold not withholding it and room in the injection queue, is granted at the scan: segment, component,
segment in flight with its timer, record, and in LIVE and UNWIND the injected telegram, with the refresh restarted; the
F-port's arbiter then acts as `portActs` says, a busy transmitter going on with its frame. The first grant of a record of a
wave of the installed plan is reported to the Arrival Monitor and marked; a later grant of the wave and an URGENT grant are
not. The order of the reports is log entry 6's choice. -/
def Obligations.ScanGrantsTheRecord : Prop :=
  ∀ (s : State) (q : Nat) (r : MoveRecord) (seg tgt : Int), s.powered = true → s.gate.scanDue = true →
    s.gate.record q = some r → r.sequence = q → (s.fleet.dynamic r.turbine).availability = .online →
    (s.fleet.dynamic r.turbine).yaw ≠ some .locked → (s.fleet.dynamic r.turbine).yaw ≠ some .fault →
    s.gate.flightOf r.turbine = none →
    seg = signedStep s.planner.params.maxStep (r.target - s.gate.component r.turbine) →
    tgt = s.gate.component r.turbine + seg →
    ((s.gate.urgentQueue = [q] ∧ s.gate.normalQueue = [] ∧ r.cls = .urgent ∧
        s.gate.flights.length < s.gate.urgentBudget) ∨
      (s.gate.urgentQueue = [] ∧ s.gate.normalQueue = [q] ∧ r.cls = .normal ∧ s.gate.hold = false ∧
        ∃ p, s.gate.installed = some p ∧ s.gate.flights.length < s.gate.budgets.getD p.pair.band 0)) →
    (s.gate.modeIn = .dry ∨ (inSending s.gate.modeIn ∧ s.line.injections.length < 32)) →
    ∃ t, exec .arbiterScan s = .next t ∧ t.gate.urgentQueue = [] ∧ t.gate.normalQueue = [] ∧
      t.gate.component r.turbine = tgt ∧
      (∀ i, i ≠ r.turbine → t.gate.component i = s.gate.component i) ∧
      t.gate.flights = s.gate.flights ++ [{
        record := q, turbine := r.turbine, segment := seg, target := tgt
        expires := s.clock + ((seg.natAbs + s.planner.params.yawRate - 1) / s.planner.params.yawRate) +
          (if s.gate.modeIn = .dry then 0 else s.planner.params.settleMargin)
        simulated := decide (s.gate.modeIn = .dry), fate := if r.cls = .urgent then .urgent else .own }] ∧
      t.gate.ring = s.gate.ring.map (fun x => if x.sequence = q then { x with
          state := .inFlight, segmentTarget := some tgt, grantTime := some s.now
          segments := r.done + ((r.target - s.gate.component r.turbine).natAbs + s.planner.params.maxStep - 1) /
            s.planner.params.maxStep }
        else x) ∧
      t.fleet = s.fleet ∧ t.notices = s.notices ∧ t.upkeep.controllerBias = s.upkeep.controllerBias ∧
      (∃ made : List Instr, (made = [] ∨ made = [.roomEvent]) ∧
        (s.gate.modeIn = .dry ∨ s.line.fPort.transmission.isSome = true → made = []) ∧
        (∀ p k w, r.cls = .normal → s.gate.installed = some p → r.wave = some k → p.waves[k]? = some w →
          w.firstGranted = false → t.reports = s.reports ++ made ++ [.watchArming p.number k] ∧
            ∃ o, t.gate.installed = some o ∧ o = { p with waves := o.waves } ∧ o.waves.length = p.waves.length ∧
              o.waves[k]? = some { w with firstGranted := true } ∧ ∀ j, j ≠ k → o.waves[j]? = p.waves[j]?) ∧
        ((r.cls = .urgent ∨ ∃ p k w, s.gate.installed = some p ∧ r.wave = some k ∧ p.waves[k]? = some w ∧
            w.firstGranted = true) →
          t.reports = s.reports ++ made ∧ t.gate.installed = s.gate.installed) ∧
        (∀ a e, inSending s.gate.modeIn → inSending s.upkeep.modeIn → (s.fleet.static r.turbine).address = some a →
          s.line.modeIn ≠ .off →
          e = ⟨r.cls, buildFrame (BitVec.allOnes 48) Config.stationAddress s.line.typeValue
            { dest := a, source := s.line.node, kind := 2, flags := 0#8, sequence := s.line.sequence, tag := none
              body := i16 (clamp (-(s.planner.params.biasLimit : Int)) s.planner.params.biasLimit
                (s.upkeep.controllerBias.get 0 r.turbine + tgt)) ++ [1#8] }⟩ →
          ∃ w x, w = { s with
              gate := { t.gate with installed := s.gate.installed, scanDue := false }
              line := { s.line with
                sequence := s.line.sequence + 1#8, injections := joinInjections e s.line.injections } } ∧
            portActs .fPort w x ∧ x.reports = s.reports ++ made ∧ t = { x with
              upkeep := t.upkeep, gate := { x.gate with installed := t.gate.installed }, reports := t.reports })) ∧
      (s.gate.modeIn = .dry → t.line = s.line ∧ t.upkeep = s.upkeep) ∧
      (inSending s.gate.modeIn → inSending s.upkeep.modeIn →
        t.upkeep.refresh.get none r.turbine = some (s.clock + s.planner.params.refresh) ∧
        ∀ a, (s.fleet.static r.turbine).address = some a → s.line.modeIn ≠ .off →
          s.line.fPort.transmission.isSome = true →
          ∃ e : Injection, e.cls = r.cls ∧ t.line = { s.line with
              sequence := s.line.sequence + 1#8, injections := joinInjections e s.line.injections } ∧
            e.frame = buildFrame (BitVec.allOnes 48) Config.stationAddress s.line.typeValue
              { dest := a, source := s.line.node, kind := 2, flags := 0#8, sequence := s.line.sequence, tag := none
                body := i16 (clamp (-(s.planner.params.biasLimit : Int)) s.planner.params.biasLimit
                  (s.upkeep.controllerBias.get 0 r.turbine + tgt)) ++ [1#8] })

/-- R117-R119, R111, R129, R166: a scan skips the record of a FAULT, STALE, UNSEEN, LOCKED or yaw-FAULT turbine with its
cause and a MOVE notice, leaving its component; a NORMAL one then makes the completion test of its installed plan, an URGENT
one is reported to the Mode Controller, with the end report when it was the last unfinished. The scan passes over a record
whose turbine is busy, whose budget is taken or which hold withholds, and stops at a full injection queue: nothing but the
scan's own taking changes. A scan of more records is that of its first one, the head of the urgent queue or, with that empty,
of the normal queue, and then a scan of the others in the state it leaves: a record passed over keeps its place, and where the
scan stops, that record and all behind it in both queues stay. The order of the reports is log entry 6's choice. -/
def Obligations.ScanSkipsOrPassesOver : Prop :=
  (∀ (s : State) (q : Nat) (r : MoveRecord), s.powered = true → s.gate.scanDue = true →
    (s.gate.urgentQueue = [] ∧ s.gate.normalQueue = [q] ∧ r.cls = .normal ∨
      s.gate.urgentQueue = [q] ∧ s.gate.normalQueue = [] ∧ r.cls = .urgent) →
    s.gate.record q = some r → r.sequence = q →
    (∀ c, ((s.fleet.dynamic r.turbine).availability = .fault ∧ c = .unavailable ∨
        ((s.fleet.dynamic r.turbine).availability = .unseen ∨ (s.fleet.dynamic r.turbine).availability = .stale) ∧
          c = .stale ∨
        (s.fleet.dynamic r.turbine).availability = .online ∧
          ((s.fleet.dynamic r.turbine).yaw = some .locked ∧ c = .locked ∨
           (s.fleet.dynamic r.turbine).yaw = some .fault ∧ c = .yawFault)) →
      ∃ t rest, exec .arbiterScan s = .next t ∧ t.gate.normalQueue = [] ∧ t.gate.urgentQueue = [] ∧
        t = { s with gate := t.gate, reports := t.reports, notices := t.notices } ∧
        t.gate = { s.gate with
          installed := t.gate.installed, last := t.gate.last, ring := t.gate.ring, normalQueue := [], urgentQueue := []
          scanDue := false } ∧
        t.gate.components = s.gate.components ∧ t.gate.flights = s.gate.flights ∧
        t.notices = s.notices ++ .moveSkipped q r.turbine c :: rest ∧
        t.gate.ring = s.gate.ring.map (fun x => if x.sequence = q then { x with
          state := .skipped, cause := some c, finishTime := some s.now, segmentTarget := none, grantTime := none }
          else x) ∧
        (r.cls = .normal →
          (∀ p, s.gate.installed = some p → p.number = r.plan → p.waves.length ≤ p.nextWave →
            (∀ x ∈ s.gate.ring, x.cls = .normal → x.plan = p.number → x.sequence ≠ q → x.state.finished = true) →
            t.gate.installed = none ∧ t.gate.last = some { p with state := .complete } ∧
            t.reports = s.reports ++ [.swapConditionReport (.planInstalled false), .completionReport p.number] ∧
            rest = [.complete p.number p.pair p.planTime p.failures
              (t.gate.ring.countP (fun x => decide (x.cls = .normal ∧ x.plan = p.number ∧ x.state = .settled)))
              (t.gate.ring.countP (fun x => decide (x.cls = .normal ∧ x.plan = p.number ∧ x.state = .failed)))
              (t.gate.ring.countP (fun x => decide (x.cls = .normal ∧ x.plan = p.number ∧ x.state = .skipped)))]) ∧
          ((∀ p, s.gate.installed = some p → p.number = r.plan → p.nextWave < p.waves.length ∨
              ∃ x ∈ s.gate.ring, x.cls = .normal ∧ x.plan = p.number ∧ x.sequence ≠ q ∧ x.state.finished = false) →
            t.gate.installed = s.gate.installed ∧ t.gate.last = s.gate.last ∧ t.reports = s.reports ∧ rest = [])) ∧
        (r.cls = .urgent → t.gate.installed = s.gate.installed ∧ t.gate.last = s.gate.last ∧ rest = [] ∧
          t.reports = s.reports ++ [.urgentFinishReport .skipped] ++
            (if ∃ x ∈ s.gate.ring, x.cls = .urgent ∧ x.sequence ≠ q ∧ x.state.finished = false then []
             else [.unwindEnd]))) ∧
    ((s.fleet.dynamic r.turbine).availability = .online → (s.fleet.dynamic r.turbine).yaw ≠ some .locked →
      (s.fleet.dynamic r.turbine).yaw ≠ some .fault →
      (s.gate.flightOf r.turbine ≠ none ∨ r.cls = .normal ∧ s.gate.hold = true ∨
        (r.cls = .normal ∧ ∀ p, s.gate.installed = some p →
          s.gate.budgets.getD p.pair.band 0 ≤ s.gate.flights.length) ∨
        r.cls = .urgent ∧ s.gate.urgentBudget ≤ s.gate.flights.length ∨
        (inSending s.gate.modeIn ∧ 32 ≤ s.line.injections.length)) →
      exec .arbiterScan s = .next { s with gate := { s.gate with scanDue := false } })) ∧
  (∀ (s one t1 t2 : State) (q : Nat) (us ns : List Nat) (stops : Prop), s.powered = true → s.gate.scanDue = true →
    (s.gate.urgentQueue = q :: us ∧ s.gate.normalQueue = ns ∧
        one = { s with gate := { s.gate with urgentQueue := [q], normalQueue := [] } } ∨
      s.gate.urgentQueue = [] ∧ us = [] ∧ s.gate.normalQueue = q :: ns ∧
        one = { s with gate := { s.gate with normalQueue := [q] } }) →
    q ∉ us → q ∉ ns →
    (stops ↔ ∃ r, s.gate.record q = some r ∧ (s.fleet.dynamic r.turbine).availability = .online ∧
      (s.fleet.dynamic r.turbine).yaw ≠ some .locked ∧ (s.fleet.dynamic r.turbine).yaw ≠ some .fault ∧
      s.gate.flightOf r.turbine = none ∧
      (r.cls = .urgent ∧ s.gate.flights.length < s.gate.urgentBudget ∨
        r.cls = .normal ∧ s.gate.hold = false ∧
          ∃ p, s.gate.installed = some p ∧ s.gate.flights.length < s.gate.budgets.getD p.pair.band 0) ∧
      inSending s.gate.modeIn ∧ 32 ≤ s.line.injections.length) →
    exec .arbiterScan one = .next t1 →
    exec .arbiterScan { t1 with gate := { t1.gate with scanDue := true, urgentQueue := us, normalQueue := ns } } =
      .next t2 →
    (stops → exec .arbiterScan s = .next { s with gate := { s.gate with scanDue := false } }) ∧
    (¬ stops → exec .arbiterScan s = .next { t2 with gate := { t2.gate with
      scanDue := t1.gate.scanDue || t2.gate.scanDue
      urgentQueue := t1.gate.urgentQueue ++ t2.gate.urgentQueue
      normalQueue := t1.gate.normalQueue ++ t2.gate.normalQueue } }))

/-- R122-R126, R111, R129, R166: in LIVE and UNWIND an IDLE sample within the tolerance of the commanded bias settles the
segment, a FAULT or LOCKED sample and the timeout fail it, any other sample leaves it; in DRY the simulated settle settles it.
A settle counts the segment and finishes a record at its target, or makes an OWN or URGENT one READY again; a failure finishes
the record FAILED, makes the turbine FAULT and sends the MOVE notice. Either way the slot is freed and the component stays. An
URGENT record's finish is reported to the Mode Controller, with the end report when no URGENT record is left unfinished. The
failure that reaches the limit aborts the plan: its PENDING and READY records finish CANCELLED with cause ABORT and leave the
queues, its OWN segments take fate ABORTED, and it becomes the last plan, its end reported and noticed. The finish of the last
unfinished record of an installed plan whose waves are all released completes it: no longer installed, the last plan, its end
reported and noticed. That an expiry lets the timer's remaining seconds pass first is log entry 1's choice, and the order of
the reports of an abort and of a completion log entry 6's. A sample for a turbine with no segment in flight is not used. -/
def Obligations.SegmentsSettleOrFail : Prop :=
  (∀ (s : State) (i : Nat) (y : YawState) (a : Int), s.powered = true → (∀ f ∈ s.gate.flights, f.turbine ≠ i) →
    exec (.segmentSample i y a) s = .next s) ∧
  ∀ (s : State) (f : Flight) (r : MoveRecord) (c : Instr) (s1 : State), s.powered = true →
    s.gate.flightOf f.turbine = some f → s.gate.record f.record = some r →
    (((∃ a, c = .segmentSample f.turbine .idle a ∧ s1 = s ∧ inSending s.gate.modeIn ∧
          (a - clamp (-(s.planner.params.biasLimit : Int)) s.planner.params.biasLimit
            (s.upkeep.controllerBias.get 0 f.turbine + s.gate.component f.turbine)).natAbs
              ≤ s.planner.params.settleTol) ∨
        (c = .simulatedSettleExpiry f.turbine ∧ f.simulated = true ∧ s1 = s.elapse (f.expires - s.clock))) →
      ∃ t, exec c s = .next t ∧ t.gate.flights = s.gate.flights.filter (fun x => x.turbine != f.turbine) ∧
        t.gate.scanDue = true ∧ t.gate.components = s.gate.components ∧ t.fleet = s.fleet ∧ t.clock = s1.clock ∧
        (s.gate.component f.turbine = r.target → t.gate.ring = s.gate.ring.map (fun x =>
          if x.sequence = f.record then { x with
            done := x.done + 1, state := .settled, cause := none, finishTime := some s1.now
            segmentTarget := none, grantTime := none } else x)) ∧
        (∀ p, r.cls = .normal → s.gate.component f.turbine = r.target → s1.gate.installed = some p → p.number = r.plan →
          ((p.nextWave < p.waves.length ∨ ∃ x ∈ s.gate.ring, x.cls = .normal ∧ x.plan = p.number ∧
              x.sequence ≠ f.record ∧ x.state.finished = false) →
            t.gate.installed = some p ∧ t.reports = s.reports ∧ t.notices = s.notices) ∧
          (p.waves.length ≤ p.nextWave → (∀ x ∈ s.gate.ring, x.cls = .normal → x.plan = p.number →
              x.sequence ≠ f.record → x.state.finished = true) →
            t.gate.installed = none ∧ t.gate.last = some { p with state := .complete } ∧
            t.reports = s.reports ++ [.swapConditionReport (.planInstalled false), .completionReport p.number] ∧
            t.notices = s.notices ++ [.complete p.number p.pair p.planTime p.failures
              (t.gate.ring.countP (fun x => decide (x.cls = .normal ∧ x.plan = p.number ∧ x.state = .settled)))
              (t.gate.ring.countP (fun x => decide (x.cls = .normal ∧ x.plan = p.number ∧ x.state = .failed)))
              (t.gate.ring.countP (fun x => decide (x.cls = .normal ∧ x.plan = p.number ∧ x.state = .skipped)))])) ∧
        (r.cls = .urgent → s.gate.component f.turbine = r.target → t.gate.installed = s1.gate.installed ∧
          t.notices = s.notices ∧ t.reports = s.reports ++ [.urgentFinishReport .settled] ++
            (if ∃ x ∈ s.gate.ring, x.cls = .urgent ∧ x.sequence ≠ f.record ∧ x.state.finished = false then []
             else [.unwindEnd])) ∧
        (s.gate.component f.turbine ≠ r.target → (f.fate = .own ∨ f.fate = .urgent) →
          t.reports = s.reports ∧ t.notices = s.notices ∧ t.gate.installed = s1.gate.installed ∧
          t.gate.ring = s.gate.ring.map (fun x => if x.sequence = f.record then { x with
            done := x.done + 1, state := .ready, grantTime := none } else x) ∧
          (r.cls = .normal → t.gate.normalQueue = s.gate.normalQueue ++ [f.record] ∧
            t.gate.urgentQueue = s.gate.urgentQueue) ∧
          (r.cls = .urgent → t.gate.urgentQueue = s.gate.urgentQueue ++ [f.record] ∧
            t.gate.normalQueue = s.gate.normalQueue)) ∧
        (s.gate.component f.turbine ≠ r.target → f.fate = .superseded → t.gate.ring = s.gate.ring.map (fun x =>
          if x.sequence = f.record then { x with
            done := x.done + 1, state := .superseded, cause := none, finishTime := some s1.now
            segmentTarget := none, grantTime := none } else x)) ∧
        (s.gate.component f.turbine ≠ r.target → f.fate = .aborted → t.gate.ring = s.gate.ring.map (fun x =>
          if x.sequence = f.record then { x with
            done := x.done + 1, state := .cancelled, cause := some .abort, finishTime := some s1.now
            segmentTarget := none, grantTime := none } else x))) ∧
    (∀ cause, ((∃ a, c = .segmentSample f.turbine .fault a ∧ s1 = s ∧ inSending s.gate.modeIn ∧ cause = .yawFault) ∨
        (∃ a, c = .segmentSample f.turbine .locked a ∧ s1 = s ∧ inSending s.gate.modeIn ∧ cause = .locked) ∨
        (c = .timeoutExpiry f.turbine ∧ f.simulated = false ∧ s1 = s.elapse (f.expires - s.clock) ∧
          cause = .timeout)) →
      ∃ t rest, exec c s = .next t ∧ t.gate.components = s.gate.components ∧ t.gate.scanDue = true ∧
        t.clock = s1.clock ∧ t.gate.flights.map (·.turbine) =
          (s.gate.flights.filter (fun x => x.turbine != f.turbine)).map (·.turbine) ∧
        (t.fleet.dynamic f.turbine).availability = .fault ∧
        t.notices = s.notices ++ .moveFailed f.record f.turbine cause f.target :: rest ∧
        (∃ x ∈ t.gate.ring, x.sequence = f.record ∧ x.state = .failed ∧ x.cause = some cause ∧
          x.finishTime = some s1.now ∧ x.segmentTarget = none) ∧
        (f.fate ≠ .own → t.gate.installed = s1.gate.installed ∧ rest = [] ∧
          t.gate.ring = s.gate.ring.map (fun x => if x.sequence = f.record then { x with
            state := .failed, cause := some cause, finishTime := some s1.now, segmentTarget := none, grantTime := none }
            else x)) ∧
        ((f.fate = .superseded ∨ f.fate = .aborted) → t.reports = s.reports) ∧
        (f.fate = .urgent → t.reports = s.reports ++ [.urgentFinishReport .failed] ++
          (if ∃ x ∈ s.gate.ring, x.cls = .urgent ∧ x.sequence ≠ f.record ∧ x.state.finished = false then []
           else [.unwindEnd])) ∧
        (∀ p, f.fate = .own → s1.gate.installed = some p → p.failures + 1 < s.planner.params.failureLimit →
          t.gate.ring = s.gate.ring.map (fun x => if x.sequence = f.record then { x with
            state := .failed, cause := some cause, finishTime := some s1.now, segmentTarget := none, grantTime := none }
            else x) ∧
          ((p.nextWave < p.waves.length ∨ ∃ x ∈ s.gate.ring, x.cls = .normal ∧ x.plan = p.number ∧
              x.sequence ≠ f.record ∧ x.state.finished = false) →
            t.gate.installed = some { p with failures := p.failures + 1 } ∧ t.reports = s.reports ∧
            rest = [.failure p.number (p.failures + 1)]) ∧
          (p.waves.length ≤ p.nextWave → (∀ x ∈ s.gate.ring, x.cls = .normal → x.plan = p.number →
              x.sequence ≠ f.record → x.state.finished = true) →
            t.gate.installed = none ∧
            t.gate.last = some { p with failures := p.failures + 1, state := .complete } ∧
            t.reports = s.reports ++ [.swapConditionReport (.planInstalled false), .completionReport p.number] ∧
            rest = [.failure p.number (p.failures + 1), .complete p.number p.pair p.planTime (p.failures + 1)
              (t.gate.ring.countP (fun x => decide (x.cls = .normal ∧ x.plan = p.number ∧ x.state = .settled)))
              (t.gate.ring.countP (fun x => decide (x.cls = .normal ∧ x.plan = p.number ∧ x.state = .failed)))
              (t.gate.ring.countP (fun x => decide (x.cls = .normal ∧ x.plan = p.number ∧ x.state = .skipped)))])) ∧
        (∀ p, f.fate = .own → s1.gate.installed = some p → s.planner.params.failureLimit ≤ p.failures + 1 →
          t.gate.installed = none ∧
          t.gate.last = some { p with failures := p.failures + 1, state := .aborted } ∧
          t.reports = s.reports ++ [.swapConditionReport (.planInstalled false), .abortReport p.number] ∧
          rest = [.aborted p.number .failureLimit (p.failures + 1)] ∧
          t.gate.flights = (s.gate.flights.filter (fun x => x.turbine != f.turbine)).map (fun x =>
            if x.fate = .own then { x with fate := .aborted } else x) ∧
          t.gate.ring = s.gate.ring.map (fun x =>
            if x.sequence = f.record then { x with
              state := .failed, cause := some cause, finishTime := some s1.now, segmentTarget := none
              grantTime := none }
            else if x.cls = .normal ∧ x.plan = p.number ∧ (x.state = .pending ∨ x.state = .ready) then { x with
              state := .cancelled, cause := some .abort, finishTime := some s1.now, segmentTarget := none
              grantTime := none }
            else x) ∧
          ∀ gone : List Nat, gone = (s.gate.ring.filter (fun x => decide (x.sequence ≠ f.record ∧ x.cls = .normal ∧
              x.plan = p.number ∧ (x.state = .pending ∨ x.state = .ready)))).map (·.sequence) →
            t.gate.normalQueue = s.gate.normalQueue.filter (fun q => decide (q ∉ gone)) ∧
            t.gate.urgentQueue = s.gate.urgentQueue.filter (fun q => decide (q ∉ gone)))) ∧
    (∀ a, c = .segmentSample f.turbine .running a ∨
        (c = .segmentSample f.turbine .idle a ∧ s.planner.params.settleTol <
          (a - clamp (-(s.planner.params.biasLimit : Int)) s.planner.params.biasLimit
            (s.upkeep.controllerBias.get 0 f.turbine + s.gate.component f.turbine)).natAbs) ∨
        ((∃ y, c = .segmentSample f.turbine y a) ∧ ¬ inSending s.gate.modeIn) → exec c s = .next s)

/-- R127, R128: hold is in effect while the request hold or the line hold is set. HOLD sets the one, GRIDHOLD's report sets
and clears the other, RESUME clears the one and answers by the other; a change of hold is reported to the Planner, shows in
the installed plan and is noticed, and its end is a cause for a scan. -/
def Obligations.HoldHasTwoSources : Prop :=
  (∀ (s s0 : State) (h : ReqHead), s.handsOver (.hold h (some ())) h 5 s0 →
    (s0.gate.hold = true → answers (.hold h (some ())) s h 5 .ok []
      { s0 with gate := { s0.gate with requestHold := true } }) ∧
    (∀ p, s0.gate.hold = false → s0.gate.installed = some p → answers (.hold h (some ())) s h 5 .ok []
      { s0 with
        gate := { s0.gate with requestHold := true, installed := some { p with state := .held } }
        reports := s0.reports ++ [.holdReport true]
        notices := s0.notices ++ [.held p.number p.planTime true false] }) ∧
    (s0.gate.hold = false → s0.gate.installed = none → answers (.hold h (some ())) s h 5 .ok []
      { s0 with gate := { s0.gate with requestHold := true }, reports := s0.reports ++ [.holdReport true] })) ∧
  (∀ (s s0 : State) (h : ReqHead), s.handsOver (.resume h (some ())) h 5 s0 →
    (s0.gate.requestHold = false → answers (.resume h (some ())) s h 5 .notHeld [] s0) ∧
    (s0.gate.requestHold = true → s0.gate.lineHold = true → answers (.resume h (some ())) s h 5 .stillHeld []
      { s0 with gate := { s0.gate with requestHold := false } }) ∧
    (s0.gate.requestHold = true → s0.gate.lineHold = false → s0.gate.installed = none →
      answers (.resume h (some ())) s h 5 .ok []
        { s0 with gate := { s0.gate with requestHold := false, scanDue := true }
                  reports := s0.reports ++ [.holdReport false] }) ∧
    (∀ p st, s0.gate.requestHold = true → s0.gate.lineHold = false → s0.gate.installed = some p →
      st = (if p.nextWave < p.waves.length then .running else .draining) →
      answers (.resume h (some ())) s h 5 .ok []
        { s0 with
          gate := { s0.gate with requestHold := false, scanDue := true, installed := some { p with state := st } }
          reports := s0.reports ++ [.holdReport false]
          notices := s0.notices ++ [.resumed p.number p.planTime st] })) ∧
  (∀ (s : State) (b : Bool), s.powered = true →
    ∃ t, exec (.gridholdReport b) s = .next t ∧ t.gate.lineHold = b ∧ t.gate.requestHold = s.gate.requestHold ∧
      ((s.gate.requestHold = true ∨ s.gate.lineHold = b) → t = { s with
        gate := { s.gate with lineHold := b }, reports := s.reports.erase (.gridholdReport b) }) ∧
      (s.gate.requestHold = false → s.gate.lineHold ≠ b →
        t.reports = s.reports.erase (.gridholdReport b) ++ [.holdReport b] ∧
        (b = false → t.gate.scanDue = true) ∧
        (∀ p, s.gate.installed = some p → t.gate.installed = some { p with state :=
            if b = true then .held else if p.nextWave < p.waves.length then .running else .draining } ∧
          t.notices = s.notices ++ [if b = true then .held p.number p.planTime false true
            else .resumed p.number p.planTime
              (if p.nextWave < p.waves.length then .running else .draining)])))

/-- R129, R126, R165: entry to UNWIND aborts the installed plan (its PENDING and READY records finish CANCELLED with cause
ABORT and leave the queues, its segments take fate ABORTED), clears the request hold and creates, in index order, one READY
URGENT record to target 0 for each turbine whose component is not 0, at the tail of the urgent ready queue; the figures are
handed to the Mode Controller, and the end report follows at once when no URGENT record is unfinished. The room for the record
numbers rules out their wrap. The order of the reports is log entry 6's choice. -/
def Obligations.UnwindEntryCreatesUrgentRecords : Prop :=
  ∀ (s : State) (plan : Nat) (ts gone : List Nat), s.powered = true → ringOrdered s →
    s.gate.recordCounter + 256 ≤ 4294967295 → plan = (match s.gate.installed with | some p => p.number | none => 0) →
    ts = (List.range 256).filter (fun i => s.gate.component i != 0) →
    gone = (s.gate.ring.filter (fun r => decide (s.gate.installed.map (·.number) = some r.plan ∧ r.cls = .normal ∧
      (r.state = .pending ∨ r.state = .ready)))).map (·.sequence) →
    ∃ t, exec .unwindEntry s = .next t ∧ t = { s with gate := t.gate, reports := t.reports, notices := t.notices } ∧
      t.gate.modeIn = .unwind ∧ t.gate.installed = none ∧ t.gate.requestHold = false ∧
      t.gate.components = s.gate.components ∧
      t.gate.flights = s.gate.flights.map (fun f =>
        if s.gate.installed ≠ none ∧ f.fate = .own then { f with fate := .aborted } else f) ∧
      t.gate.recordCounter = s.gate.recordCounter + ts.length ∧
      t.gate.normalQueue = s.gate.normalQueue.filter (fun q => decide (q ∉ gone)) ∧
      t.gate.urgentQueue = s.gate.urgentQueue.filter (fun q => decide (q ∉ gone)) ++
        (List.range ts.length).map (fun k => s.gate.recordCounter + 1 + k) ∧
      (ts ≠ [] → t.gate.scanDue = true) ∧
      t.gate.ring = (s.gate.ring.map (fun r => if r.sequence ∈ gone then { r with
          state := .cancelled, cause := some .abort, finishTime := some s.now, segmentTarget := none, grantTime := none }
          else r)).drop (s.gate.ring.length + ts.length - 1024) ++ ts.zipIdx.map (fun x =>
        { sequence := s.gate.recordCounter + 1 + x.2, plan := plan, cls := .urgent, turbine := x.1, wave := none,
          source := s.gate.component x.1, target := 0
          segments := ((s.gate.component x.1).natAbs + s.planner.params.maxStep - 1) / s.planner.params.maxStep
          done := 0, segmentTarget := none, grantTime := none, state := .ready, cause := none, finishTime := none }) ∧
      (s.gate.installed = none → t.gate.last = s.gate.last ∧ t.notices = s.notices) ∧
      (∀ p, s.gate.installed = some p → t.gate.last = some { p with state := .aborted } ∧
        t.notices = s.notices ++ [.aborted p.number .unwind p.failures]) ∧
      t.reports = s.reports.erase .unwindEntry ++
        (if s.gate.installed = none then []
          else [.swapConditionReport (.planInstalled false), .abortReport plan]) ++
        (if s.gate.requestHold = true ∧ s.gate.lineHold = false then [.holdReport false] else []) ++
        [.unwindFigures plan ts.length] ++
        (if ts = [] ∧ ∀ r ∈ s.gate.ring, r.cls = .urgent → r.state.finished = true then [.unwindEnd] else [])

/-- R130: entry to OFF aborts the installed plan, finishes every unfinished record CANCELLED with cause DISABLE, empties the
queues and the segments in flight, and returns every component to 0; the hold sources, the budgets, the steered pair and the
counters stay. Each URGENT record that it cancels is reported to the Mode Controller, and then the end of the unwind (log
entry 29's reading). The order of the reports is log entry 6's choice. -/
def Obligations.OffEntryCancelsEverything : Prop :=
  ∀ s : State, s.powered = true →
    ∃ t, exec .offEntry s = .next t ∧ t = { s with gate := t.gate, reports := t.reports, notices := t.notices } ∧
      t.gate.modeIn = .off ∧ t.gate.installed = none ∧ t.gate.flights = [] ∧ t.gate.normalQueue = [] ∧
      t.gate.urgentQueue = [] ∧ (∀ i, t.gate.component i = 0) ∧
      t.gate.ring = s.gate.ring.map (fun r => if r.state.finished = true then r else { r with
        state := .cancelled, cause := some .disable, finishTime := some s.now, segmentTarget := none
        grantTime := none }) ∧
      t.gate.planCounter = s.gate.planCounter ∧ t.gate.recordCounter = s.gate.recordCounter ∧
      t.gate.steered = s.gate.steered ∧ t.gate.requestHold = s.gate.requestHold ∧
      t.gate.lineHold = s.gate.lineHold ∧ t.gate.budgets = s.gate.budgets ∧
      (s.gate.installed = none → t.gate.last = s.gate.last ∧ t.notices = s.notices) ∧
      (∀ p, s.gate.installed = some p → t.gate.last = some { p with state := .aborted } ∧
        t.notices = s.notices ++ [.aborted p.number .disable p.failures] ∧
        .abortReport p.number ∈ t.reports ∧ .swapConditionReport (.planInstalled false) ∈ t.reports) ∧
      (∀ n, n = s.gate.ring.countP (fun r => decide (r.cls = .urgent ∧ r.state.finished = false)) →
        t.reports = s.reports.erase .offEntry ++
          (match s.gate.installed with
            | some p => [.swapConditionReport (.planInstalled false), .abortReport p.number]
            | none => []) ++
          (if n = 0 then [] else List.replicate n (.urgentFinishReport .cancelled) ++ [.unwindEnd]))

/-- R119, R120: from every state in which no two segments fly for one turbine, at most 32 segments fly and no budget exceeds
32, each step keeps all three. -/
def Obligations.EveryStepKeepsSlotsBounded : Prop :=
  ∀ s t : State, slotsBounded s → step s = .next t → slotsBounded t

/-! ### Bias Upkeep -/

/-- R140, R141: the expiry of a refresh timer submits a NORMAL BIAS telegram with the commanded bias and restarts the timer,
or makes the refresh wait at the tail of the wait list behind a full injection queue; a room event serves the wait list from
its head until it is empty or the injection queue is full: the telegram of the head is submitted, and the rest is served as by
a room event in the state that leaves. At each submission the F-port's arbiter acts as `portActs` says, a departure being a
room event of its own, and a busy transmitter going on with its frame. That an expiry lets the timer's remaining seconds pass
first is log entry 1's choice. -/
def Obligations.RefreshIsSubmittedOrWaits : Prop :=
  (∀ (s : State) (i a : Nat) (e : Injection), s.powered = true → (s.fleet.static i).address = some a →
    s.line.modeIn ≠ .off → s.line.fPort.transmission.isSome = true →
    e = ⟨.normal, buildFrame (BitVec.allOnes 48) Config.stationAddress s.line.typeValue
      { dest := a, source := s.line.node, kind := 2, flags := 0#8, sequence := s.line.sequence, tag := none
        body := i16 (clamp (-(s.planner.params.biasLimit : Int)) s.planner.params.biasLimit
          (s.upkeep.controllerBias.get 0 i + s.gate.component i)) ++ [1#8] }⟩ →
    (∀ d, s.upkeep.refresh.get none i = some d → s.line.injections.length < 32 →
      ∃ t, exec (.refreshExpiry i) s = .next t ∧ t.clock = s.clock + (d - s.clock) ∧
        t.line.injections = s.line.injections ++ [e] ∧ t.line.sequence = s.line.sequence + 1#8 ∧
        t.upkeep.refresh.get none i = some (t.clock + s.planner.params.refresh) ∧
        (∀ j, j ≠ i → t.upkeep.refresh.get none j = s.upkeep.refresh.get none j) ∧
        t.upkeep.waitList = s.upkeep.waitList.erase i ∧ t.upkeep.controllerBias = s.upkeep.controllerBias) ∧
    (s.upkeep.waitList = [i] → s.line.injections.length < 32 → inSending s.upkeep.modeIn →
      ∃ t, exec .roomEvent s = .next t ∧ t.line.injections = s.line.injections ++ [e] ∧ t.upkeep.waitList = [] ∧
        t.upkeep.refresh.get none i = some (s.clock + s.planner.params.refresh) ∧
        t.reports = s.reports.erase .roomEvent ∧ t.clock = s.clock)) ∧
  (∀ (s : State) (i d : Nat), s.powered = true → s.upkeep.refresh.get none i = some d → 32 ≤ s.line.injections.length →
    ∃ t, exec (.refreshExpiry i) s = .next t ∧ t = { s.elapse (d - s.clock) with
        upkeep := { s.upkeep with refresh := t.upkeep.refresh, waitList := s.upkeep.waitList ++ [i] } } ∧
      t.upkeep.refresh.get none i = none ∧
      ∀ j, j ≠ i → t.upkeep.refresh.get none j = s.upkeep.refresh.get none j) ∧
  (∀ s : State, s.powered = true →
    (s.upkeep.waitList = [] ∨ 32 ≤ s.line.injections.length ∨ ¬ inSending s.upkeep.modeIn) →
    exec .roomEvent s = .next { s with reports := s.reports.erase .roomEvent }) ∧
  (∀ (s : State) (k : Nat), s.powered = true → inSending s.upkeep.modeIn → s.line.modeIn ≠ .off →
    s.line.fPort.transmission.isSome = true → s.upkeep.waitList.Nodup →
    (∀ j ∈ s.upkeep.waitList, (s.fleet.static j).address ≠ none) →
    k = min (32 - s.line.injections.length) s.upkeep.waitList.length →
    ∃ t, exec .roomEvent s = .next t ∧
      t = { s with line := t.line, upkeep := t.upkeep, reports := s.reports.erase .roomEvent } ∧
      t.line = { s.line with
        sequence := s.line.sequence + BitVec.ofNat 8 k
        injections := s.line.injections ++ (s.upkeep.waitList.take k).zipIdx.map (fun x => ⟨.normal,
          buildFrame (BitVec.allOnes 48) Config.stationAddress s.line.typeValue
            { dest := (s.fleet.static x.1).address.getD 0, source := s.line.node, kind := 2, flags := 0#8
              sequence := s.line.sequence + BitVec.ofNat 8 x.2, tag := none
              body := i16 (clamp (-(s.planner.params.biasLimit : Int)) s.planner.params.biasLimit
                (s.upkeep.controllerBias.get 0 x.1 + s.gate.component x.1)) ++ [1#8] }⟩) } ∧
      t.upkeep.waitList = s.upkeep.waitList.drop k ∧ t.upkeep.controllerBias = s.upkeep.controllerBias ∧
      t.upkeep.modeIn = s.upkeep.modeIn ∧
      ∀ j, t.upkeep.refresh.get none j = if j ∈ s.upkeep.waitList.take k
        then some (s.clock + s.planner.params.refresh) else s.upkeep.refresh.get none j) ∧
  (∀ (s : State) (i a : Nat) (e : Injection), s.powered = true → (s.fleet.static i).address = some a →
    s.line.modeIn ≠ .off → s.line.injections.length < 32 →
    e = ⟨.normal, buildFrame (BitVec.allOnes 48) Config.stationAddress s.line.typeValue
      { dest := a, source := s.line.node, kind := 2, flags := 0#8, sequence := s.line.sequence, tag := none
        body := i16 (clamp (-(s.planner.params.biasLimit : Int)) s.planner.params.biasLimit
          (s.upkeep.controllerBias.get 0 i + s.gate.component i)) ++ [1#8] }⟩ →
    (∀ d s1, s.upkeep.refresh.get none i = some d → s1 = s.elapse (d - s.clock) →
      ∃ x t, portActs .fPort { s1 with line := { s1.line with
          sequence := s.line.sequence + 1#8, injections := s.line.injections ++ [e] } } x ∧
        exec (.refreshExpiry i) s = .next t ∧ t = { x with upkeep := t.upkeep } ∧
        t.upkeep.refresh.get none i = some (t.clock + s.planner.params.refresh) ∧
        (∀ j, j ≠ i → t.upkeep.refresh.get none j = s.upkeep.refresh.get none j) ∧
        t.upkeep.waitList = s.upkeep.waitList.erase i ∧ t.upkeep.controllerBias = s.upkeep.controllerBias ∧
        t.upkeep.modeIn = s.upkeep.modeIn) ∧
    (∀ rest, s.upkeep.waitList = i :: rest → inSending s.upkeep.modeIn →
      ∃ x u, portActs .fPort { s with
          line := { s.line with sequence := s.line.sequence + 1#8, injections := s.line.injections ++ [e] }
          reports := s.reports.erase .roomEvent } x ∧
        u = { x with upkeep := u.upkeep, reports := .roomEvent :: x.reports } ∧ u.upkeep.waitList = rest ∧
        u.upkeep.refresh.get none i = some (s.clock + s.planner.params.refresh) ∧
        (∀ j, j ≠ i → u.upkeep.refresh.get none j = s.upkeep.refresh.get none j) ∧
        u.upkeep.controllerBias = s.upkeep.controllerBias ∧ u.upkeep.modeIn = s.upkeep.modeIn ∧
        exec .roomEvent s = exec .roomEvent u))

/-! ### The Arrival Monitor -/

/-- R147, R148, R152: the report of an install that supersedes the monitored plan closes its watches first; in LIVE the new
plan is monitored, with one watch per downwind row, WAITING on the row's arrival reference or UNWATCHED without one; in any
other mode input no plan is monitored. The release report of a wave of 1 or more of the monitored plan records its second in
that wave's watch, and no other report is used. The Gate's reports reach the Monitor in the order the Gate makes them (section
9): where others of them stand ahead of one, the first of these is taken first. That one no block made counts as the last made is
log entry 6's choice. -/
def Obligations.MonitorTakesInstallAndRelease : Prop :=
  (∀ (s : State) (c x : Instr) (first mid : List Instr), s.powered = true → gateToMonitor c = true →
    standsAhead c s.reports (first ++ x :: mid) → gateToMonitor x = true → (∀ y ∈ first, gateToMonitor y = false) →
    ∃ u, exec x s = .next u ∧ u.reports = s.reports.erase x ∧ exec c s = exec c u) ∧
  (∀ (s : State) (i : InstallInfo), s.powered = true → inPlace gateToMonitor (.installReport i) s.reports →
    ∃ t, exec (.installReport i) s = .next t ∧
      t = { s with monitor := t.monitor, reports := s.reports.erase (.installReport i) } ∧
      t.monitor.trims = s.monitor.trims ∧
      (∀ p, s.monitor.plan = some p → i.superseded = some p.number → t.monitor.arrivals =
        some ⟨p, .superseded, s.now, .notTaken, s.monitor.watches.map (fun w =>
          if w.state = .waiting ∨ w.state = .armed then { w with state := .decided .void, window := none } else w)⟩) ∧
      ((∀ p, s.monitor.plan = some p → i.superseded ≠ some p.number) →
        t.monitor.arrivals = s.monitor.arrivals) ∧
      (s.monitor.modeIn ≠ .live → t.monitor.plan = none ∧ t.monitor.watches = []) ∧
      (s.monitor.modeIn = .live → t.monitor.plan = some ⟨i.plan, i.pair, i.trim⟩ ∧
        t.monitor.watches.length = i.waves.length - 1 ∧
        ∀ k up down, i.waves[k]? = some up → i.waves[k + 1]? = some down →
          t.monitor.watches[k]? = some
            { index := k + 1, upwind := up.row, downwind := down.row, delay := down.delay.getD 0
              reference := (s.fleet.row down.row).arrivalRef, release := none
              state := if (s.fleet.row down.row).arrivalRef = none then .unwatched .noReference else .waiting
              armed := none, baseline := none, threshold := none, windowLength := none, window := none
              observed := none, power := none })) ∧
  (∀ (s : State) (plan wave : Nat), s.powered = true → inPlace gateToMonitor (.releaseReport plan wave) s.reports →
    exec (.releaseReport plan wave) s = .next { s with
      reports := s.reports.erase (.releaseReport plan wave)
      monitor := { s.monitor with watches := s.monitor.watches.map (fun w =>
        if (∃ p, s.monitor.plan = some p ∧ p.number = plan) ∧ wave ≠ 0 ∧ w.index = wave
        then { w with release := some s.now } else w) } })

/-- R149, R150, R151: the report of a wave's first grant arms the next WAITING watch of the monitored plan on the baseline
its reference last reported, 0 giving NO_BASELINE; that of any other plan arms nothing, and with no plan monitored an arrival
sample changes nothing; the first sample at or above the threshold decides an ARMED watch of its
row by the observed delay; the window's expiry decides it NONE. The arming report speaks with no other of the Gate's to the
Monitor ahead of it; the others are taken first (MonitorTakesInstallAndRelease). That an expiry lets the timer's remaining seconds pass first
is log entry 1's choice. -/
def Obligations.WatchesArmJudgeAndExpire : Prop :=
  (∀ (s : State) (plan wave : Nat), s.powered = true → inPlace gateToMonitor (.watchArming plan wave) s.reports →
    (∀ p, s.monitor.plan = some p → p.number ≠ plan) → exec (.watchArming plan wave) s = .next { s with reports := s.reports.erase (.watchArming plan wave) }) ∧
  (∀ (s : State) (row power time : Nat), s.powered = true → s.monitor.plan = none →
    exec (.arrivalSample row power time) s = .next s) ∧
  (∀ (s : State) (plan wave : Nat) (p : MonitoredPlan), s.powered = true →
    inPlace gateToMonitor (.watchArming plan wave) s.reports → s.monitor.plan = some p → p.number = plan →
    exec (.watchArming plan wave) s = .next { s with
      reports := s.reports.erase (.watchArming plan wave)
      monitor := { s.monitor with watches := s.monitor.watches.map (fun w =>
        if w.index = wave + 1 ∧ w.state = .waiting then
          (if s.fleet.baseline w = 0 then
            { w with state := .unwatched .noBaseline, armed := some s.now, baseline := some 0 }
          else { w with
            state := .armed, armed := some s.now, baseline := some (s.fleet.baseline w)
            threshold := some (s.fleet.baseline w + s.fleet.baseline w * s.monitor.theta / 256)
            windowLength := some (min (2 * w.delay) s.planner.params.gapMax)
            window := some (s.clock + min (2 * w.delay) s.planner.params.gapMax) })
        else w) } }) ∧
  (∀ (s : State) (row power time : Nat), s.powered = true → s.monitor.plan ≠ none →
    ∃ t, exec (.arrivalSample row power time) s = .next t ∧
      t = { s with monitor := { s.monitor with watches := t.monitor.watches } } ∧
      t.monitor.watches.length = s.monitor.watches.length ∧
      ∀ (k : Nat) (w : Watch), s.monitor.watches[k]? = some w →
        ((w.downwind ≠ row ∨ w.state ≠ .armed ∨ (∃ th, w.threshold = some th ∧ power < th)) →
          t.monitor.watches[k]? = some w) ∧
        (∀ th a, w.downwind = row → w.state = .armed → w.threshold = some th → th ≤ power → w.armed = some a →
          a ≤ time → time < 4294967296 → t.monitor.watches[k]? = some { w with
            state := .decided (if ((time - a : Nat) : Int) < w.delay - s.monitor.tau then .early
              else if ((time - a : Nat) : Int) > w.delay + s.monitor.tau then .late else .onTime)
            window := none, observed := some (time - a), power := some power })) ∧
  (∀ (s : State) (k d : Nat) (x : Watch), s.powered = true → s.monitor.watches.find? (fun w => w.index == k) = some x →
    x.window = some d → exec (.windowExpiry k) s = .next { s.elapse (d - s.clock) with
      monitor := { s.monitor with watches := s.monitor.watches.map (fun w => if w.index = k ∧ w.state = .armed then
        { w with state := .decided .none, window := none } else w) } })

/-- R147, R152, R153, R154: the end of a plan that is not monitored changes nothing at the Monitor, neither watches nor arrival
table. The abort of the monitored plan closes its WAITING and ARMED watches VOID and takes no vote; its
completion closes ARMED ones NONE and WAITING ones NOT_ARMED, and with learning on steps the sector's trim by at most one
toward the net of LATE over EARLY within 32..128, TRIM_STEPPED being sent when it changes. The vote does not reach a sector
that S excludes (R146); that the header then shows it TAKEN with the trim unchanged is log entry 46's choice. Each report has no
other of the Gate's to the Monitor ahead of it; the others are taken first (MonitorTakesInstallAndRelease). -/
def Obligations.MonitoredPlanEndsWithItsVote : Prop :=
  (∀ (s : State) (n : Nat) (c : Instr), s.powered = true → (c = .abortReport n ∨ c = .completionReport n) →
    inPlace gateToMonitor c s.reports → (∀ p, s.monitor.plan = some p → p.number ≠ n) → exec c s = .next { s with reports := s.reports.erase c }) ∧
  ∀ (s : State) (p : MonitoredPlan), s.powered = true → s.monitor.plan = some p →
    (inPlace gateToMonitor (.abortReport p.number) s.reports → exec (.abortReport p.number) s = .next { s with
      reports := s.reports.erase (.abortReport p.number)
      monitor := { s.monitor with
        plan := none, watches := []
        arrivals := some ⟨p, .aborted, s.now, .notTaken, s.monitor.watches.map (fun w =>
          if w.state = .waiting ∨ w.state = .armed then { w with state := .decided .void, window := none }
          else w)⟩ } }) ∧
    (∀ ws : List Watch, inPlace gateToMonitor (.completionReport p.number) s.reports → ws = s.monitor.watches.map (fun w =>
        if w.state = .armed then { w with state := .decided .none, window := none }
        else if w.state = .waiting then { w with state := .unwatched .notArmed } else w) →
      (s.monitor.learning = false → exec (.completionReport p.number) s = .next { s with
        reports := s.reports.erase (.completionReport p.number)
        monitor := { s.monitor with
          plan := none, watches := [], arrivals := some ⟨p, .complete, s.now, .off, ws⟩ } }) ∧
      (∀ (net : Int) (before after : Nat), s.monitor.learning = true →
        net = ((ws.countP (fun w => w.state == .decided .late) : Nat) : Int) -
          ((ws.countP (fun w => w.state == .decided .early) : Nat) : Int) →
        before = s.monitor.trim p.pair.sector →
        after = (if s.wind.params.sectors ≤ p.pair.sector then before
          else if 0 < net ∧ before ≠ 128 then before + 1 else if net < 0 ∧ before ≠ 32 then before - 1 else before) →
        ∃ t, exec (.completionReport p.number) s = .next t ∧
          t = { s with
            reports := s.reports.erase (.completionReport p.number), notices := t.notices
            monitor := { s.monitor with
              trims := t.monitor.trims, plan := none, watches := []
              arrivals := some ⟨p, .complete, s.now, .taken net before after, ws⟩ } } ∧
          t.monitor.trim p.pair.sector = after ∧ (∀ k, k ≠ p.pair.sector → t.monitor.trim k = s.monitor.trim k) ∧
          t.notices = (if after = before then s.notices
            else s.notices ++ [.trimStepped p.pair.sector before after net p.number])))

/-! ### The Mode Controller -/

/-- R159-R165, R167: what ENABLE, DRY, DISABLE and UNWIND are answered by mode and condition, and the change of mode each
makes: mode, STEERING, latest cause, unwind record, the six reports and the MODE notice. That the notice of a DISABLE in
UNWIND carries the ended record is log entry 24's reading, and the order of
the six reports log entry 6's choice. -/
def Obligations.ModeRequestsChangeTheMode : Prop :=
  ∀ (s s0 : State) (h : ReqHead),
    (s.handsOver (.enable h (some ())) h 6 s0 →
      if s0.modes.mode ≠ .off then answers (.enable h (some ())) s h 6 .badMode [] s0
      else if s0.tables.valid = false then answers (.enable h (some ())) s h 6 .noTables [] s0
      else if s0.modes.storm.config.enabled = true ∧ s0.modes.storm.isActive = true then
        answers (.enable h (some ())) s h 6 .lineActive [] s0
      else answers (.enable h (some ())) s h 6 .ok [] { s0 with
        modes := { s0.modes with mode := .live, steering := true, latest := ⟨.enable, s0.now, .off, .live⟩ }
        reports := s0.reports ++ sixReports .live (.gateModeChange .live)
        notices := s0.notices ++ [.modeChanged .off .live .enable s0.now none] }) ∧
    (s.handsOver (.dry h (some ())) h 6 s0 →
      if s0.modes.mode ≠ .off then answers (.dry h (some ())) s h 6 .badMode [] s0
      else if s0.tables.valid = false then answers (.dry h (some ())) s h 6 .noTables [] s0
      else answers (.dry h (some ())) s h 6 .ok [] { s0 with
        modes := { s0.modes with mode := .dry, steering := false, latest := ⟨.dry, s0.now, .off, .dry⟩ }
        reports := s0.reports ++ sixReports .dry (.gateModeChange .dry)
        notices := s0.notices ++ [.modeChanged .off .dry .dry s0.now none] }) ∧
    (s.handsOver (.disable h (some ())) h 6 s0 →
      (s0.modes.mode = .off → answers (.disable h (some ())) s h 6 .ok [] s0) ∧
      (inSteering s0.modes.mode → answers (.disable h (some ())) s h 6 .ok [] { s0 with
        modes := { s0.modes with
          mode := .off, steering := false, latest := ⟨.disable, s0.now, s0.modes.mode, .off⟩ }
        reports := s0.reports ++ sixReports .off .offEntry
        notices := s0.notices ++ [.modeChanged s0.modes.mode .off .disable s0.now none] }) ∧
      (∀ r e, s0.modes.mode = .unwind → s0.modes.unwindRecord = some r →
        e = { r with
          outcome := .incomplete, endSecond := some s0.now
          cancelled := r.created - (r.settled + r.failed + r.skipped) } →
        answers (.disable h (some ())) s h 6 .ok [] { s0 with
          modes := { s0.modes with
            mode := .off, steering := false, latest := ⟨.disable, s0.now, .unwind, .off⟩, unwindRecord := some e }
          reports := s0.reports ++ sixReports .off .offEntry
          notices := s0.notices ++ [.modeChanged .unwind .off .disable s0.now (some e)] })) ∧
    (s.handsOver (.unwind h (some ())) h 6 s0 →
      ((s0.modes.mode = .off ∨ s0.modes.mode = .dry) → answers (.unwind h (some ())) s h 6 .badMode [] s0) ∧
      (s0.modes.mode = .unwind → answers (.unwind h (some ())) s h 6 .ok [] s0) ∧
      (s0.modes.mode = .live → answers (.unwind h (some ())) s h 6 .ok [] { s0 with
        modes := { s0.modes with
          mode := .unwind, steering := true, latest := ⟨.unwindRequest, s0.now, .live, .unwind⟩
          unwindRecord := some ⟨.inProgress, s0.now, none, 0, 0, 0, 0, 0, 0⟩ }
        reports := s0.reports ++ sixReports .unwind .unwindEntry
        notices := s0.notices ++ [.modeChanged .live .unwind .unwindRequest s0.now none] }))

/-- R169-R172: a change of level records it, and the state of an enabled line follows. A STORM activation starts an unwind in
LIVE, enters OFF from DRY and otherwise only writes the latest cause; GRIDHOLD's changes of state are reported to the Gate.
A change of mode is reported to the six blocks and noticed (R160), in an order that is log entry 6's choice. SET_LINES, in
OFF, sets both lines afresh from their recorded levels without an activation. -/
def Obligations.LinesFollowTheirLevels : Prop :=
  (∀ (s : State) (l : Line) (v : Level) (was : LineState) (now : Bool), s.powered = true →
    was = (match l with | .storm => s.modes.storm | .gridhold => s.modes.gridhold) → was.level ≠ v →
    now = (if was.config.enabled = true then decide (v = (match was.config.edge with | .rising => .high | .falling => .low))
      else was.isActive) →
    ∃ t, exec (.lineLevelChange l v) s = .next t ∧
      t = { s with modes := t.modes, reports := t.reports, notices := t.notices } ∧
      (l = .storm → t.modes.storm = ⟨was.config, v, now⟩ ∧ t.modes.gridhold = s.modes.gridhold ∧
        ((now = false ∨ was.isActive = true) →
          t = { s with modes := { s.modes with storm := ⟨was.config, v, now⟩ } }) ∧
        (now = true → was.isActive = false →
          (s.modes.mode = .live → t.modes.mode = .unwind ∧ t.modes.steering = true ∧
            t.modes.latest = ⟨.storm, s.now, .live, .unwind⟩ ∧
            t.modes.unwindRecord = some ⟨.inProgress, s.now, none, 0, 0, 0, 0, 0, 0⟩ ∧
            t.reports = s.reports ++ sixReports .unwind .unwindEntry ∧
            t.notices = s.notices ++ [.modeChanged .live .unwind .storm s.now none]) ∧
          (s.modes.mode = .dry → t.modes.mode = .off ∧ t.modes.steering = false ∧
            t.modes.latest = ⟨.storm, s.now, .dry, .off⟩ ∧ t.modes.unwindRecord = s.modes.unwindRecord ∧
            t.reports = s.reports ++ sixReports .off .offEntry ∧
            t.notices = s.notices ++ [.modeChanged .dry .off .storm s.now none]) ∧
          ((s.modes.mode = .off ∨ s.modes.mode = .unwind) → t = { s with modes := { s.modes with
            storm := ⟨was.config, v, now⟩, latest := ⟨.storm, s.now, s.modes.mode, s.modes.mode⟩ } }))) ∧
      (l = .gridhold → t = { s with
        modes := { s.modes with gridhold := ⟨was.config, v, now⟩ }
        reports := s.reports ++ (if now = was.isActive then [] else [.gridholdReport now]) })) ∧
  (∀ (s s0 : State) (h : ReqHead) (a b : LineConfig) (x y : Bool), s.handsOver (.setLines h (some (a, b))) h 6 s0 →
    x = (a.enabled && decide (s0.modes.storm.level = (match a.edge with | .rising => .high | .falling => .low))) →
    y = (b.enabled && decide (s0.modes.gridhold.level = (match b.edge with | .rising => .high | .falling => .low))) →
    if s0.modes.mode ≠ .off then answers (.setLines h (some (a, b))) s h 6 .badMode [] s0
    else answers (.setLines h (some (a, b))) s h 6 .ok [] { s0 with
      modes := { s0.modes with
        storm := ⟨a, s0.modes.storm.level, x⟩, gridhold := ⟨b, s0.modes.gridhold.level, y⟩ }
      reports := s0.reports ++ (if y = s0.modes.gridhold.isActive then [] else [.gridholdReport y]) })

/-- R165-R167: the Gate's figures are written into the unwind record, an ended one having its CANCELLED count taken anew; a
finish is counted and the end report ends the unwind while the mode is UNWIND, and in any other mode neither changes anything
at the Mode Controller. Where other such reports of the Gate stand ahead, the first of them is taken first: the figures before
the finishes and the end (R165), and these in the order they were made (log entry 51's reading). That the figures of an earlier
unwind are written into the record that stands is log entry 45's choice, and that its end report, taken in a new UNWIND, ends
that one log entry 50's. How COMPLETE and the CANCELLED count are computed is log entry 25's reading, that a CANCELLED finish is
counted in UNWIND log entry 39's choice, and the order of the six reports log entry 6's choice. -/
def Obligations.UnwindIsCountedAndEnds : Prop :=
  (∀ (s : State) (c x : Instr) (first mid : List Instr), s.powered = true → toModes c = true →
    standsAhead c s.reports (first ++ x :: mid) → toModes x = true → (∀ y ∈ first, toModes y = false) →
    ∃ u, exec x s = .next u ∧ s.reports.erase x <+: u.reports ∧ exec c s = exec c u) ∧
  ∀ (s : State) (r : UnwindRecord), s.powered = true → s.modes.unwindRecord = some r →
    (∀ plan n, inPlace toModes (.unwindFigures plan n) s.reports → exec (.unwindFigures plan n) s = .next { s with
      reports := s.reports.erase (.unwindFigures plan n)
      modes := { s.modes with unwindRecord := some { r with
        planAborted := plan, created := n
        cancelled := if r.endSecond = none then r.cancelled else n - (r.settled + r.failed + r.skipped) } } }) ∧
    (∀ o, inPlace toModes (.urgentFinishReport o) s.reports → exec (.urgentFinishReport o) s = .next { s with
      reports := s.reports.erase (.urgentFinishReport o)
      modes := { s.modes with unwindRecord := some (if s.modes.mode = .unwind then { r with
        settled := r.settled + (if o = .settled then 1 else 0)
        failed := r.failed + (if o = .failed then 1 else 0)
        skipped := r.skipped + (if o = .skipped then 1 else 0)
        cancelled := r.cancelled + (if o = .cancelled then 1 else 0) } else r) } }) ∧
    (inPlace toModes .unwindEnd s.reports → s.modes.mode ≠ .unwind →
      exec .unwindEnd s = .next { s with reports := s.reports.erase .unwindEnd }) ∧
    (∀ e, inPlace toModes .unwindEnd s.reports → s.modes.mode = .unwind → e = { r with
        endSecond := some s.now
        outcome := if r.failed = 0 ∧ r.skipped = 0 ∧ r.cancelled = 0 then .complete else .incomplete } →
      exec .unwindEnd s = .next { s with
        modes := { s.modes with
          mode := .off, steering := false, latest := ⟨.unwindEnd, s.now, .unwind, .off⟩, unwindRecord := some e }
        reports := s.reports.erase .unwindEnd ++ sixReports .off .offEntry
        notices := s.notices ++ [.modeChanged .unwind .off .unwindEnd s.now (some e)] })

/-! ### The Dispatcher -/

/-- R179, R180, R29, R32: a notice whose destination is 0 is discarded; one whose class waits replaces the waiting one in its
place with merged flag 1; one that finds its place empty joins with merged flag 0, and moves on at once to the reply queue
when that is empty, unpaused and no reply is held, and the S-port's arbiter then acts as `portActs` says: an idle transmitter
sends it, a busy one leaves it there. The event data are the model's encodings (log entries 7, 37 and 47), and a MODE notice's
unwind figures are those of the unwind record as the notice enters, log entry 24's reading. That notices enter in the order in
which their commands come, and one that no block handed as well, is log entry 53's choice. -/
def Obligations.NoticesWaitByClass : Prop :=
  ∀ (s : State) (n : Notice) (c : PendingNotice) (dest : Nat), s.powered = true →
    c = composeNotice s.modes.unwindRecord n → dest = s.dispatcher.destinations.getD (c.cls % s.dispatcher.fold) 0 →
    (dest = 0 → exec (.noticeEntry n) s = .next { s with notices := s.notices.erase n }) ∧
    (dest ≠ 0 → (∃ x ∈ s.dispatcher.pendingNotices, x.cls = c.cls) →
      exec (.noticeEntry n) s = .next { s with
        notices := s.notices.erase n
        dispatcher := { s.dispatcher with pendingNotices := s.dispatcher.pendingNotices.map (fun x =>
          if x.cls = c.cls then { c with merged := true } else x) } }) ∧
    (dest ≠ 0 → (∀ x ∈ s.dispatcher.pendingNotices, x.cls ≠ c.cls) →
      (∃ x t, readySignalled { s with
          notices := s.notices.erase n
          dispatcher := { s.dispatcher with pendingNotices := s.dispatcher.pendingNotices ++ [c] } } x ∧
        portActs .sPort x t ∧ exec (.noticeEntry n) s = .next t) ∧
      ((s.line.replies ≠ [] ∨ s.line.sPort.paused ≠ none) → s.line.sPort.transmission.isSome = true →
        exec (.noticeEntry n) s = .next { s with
          notices := s.notices.erase n
          dispatcher := { s.dispatcher with pendingNotices := s.dispatcher.pendingNotices ++ [c] } }) ∧
      (s.line.replies = [] → s.line.sPort.paused = none → s.dispatcher.held = [] →
        s.dispatcher.pendingNotices = [] → s.line.sPort.transmission.isSome = true →
        exec (.noticeEntry n) s = .next { s with
          notices := s.notices.erase n
          line := { s.line with
            sequence := s.line.sequence + 1#8
            replies := [⟨buildFrame (BitVec.allOnes 48) Config.stationAddress s.line.typeValue
              { dest := dest, source := s.line.node, kind := 0x12, flags := 0#8, sequence := s.line.sequence
                tag := none
                body := u8 255 ++ u8 c.cls ++ u8 c.event ++ u8 0 ++ u16 c.data.length ++ c.data }, false⟩] } }))

/-- R182, R25: SET_LINK refuses values out of range and, outside OFF, a change of the type value. Taken, the type value and
the tagging switch take effect at once, and the node address when the reply has been placed, which carries the former one.
That the reply carries the new type value is log entry 38's choice. -/
def Obligations.SetLinkTakesEffectWithItsReply : Prop :=
  ∀ (s s0 : State) (h : ReqHead) (x : SetLinkArgs), s.handsOver (.setLink h (some x)) h 8 s0 →
    if ¬ (1 ≤ x.node ∧ x.node ≤ 65534 ∧ 0x0600 ≤ x.typeValue ∧ x.typeValue ≤ 0xFFFF ∧ x.typeValue ≠ 0x8808) then
      answers (.setLink h (some x)) s h 8 .badArg [] s0
    else if s0.modes.mode ≠ .off ∧ x.typeValue ≠ s0.line.typeValue then answers (.setLink h (some x)) s h 8 .badMode [] s0
    else ∃ t, exec (.setLink h (some x)) s = .next t ∧ t.line.typeValue = x.typeValue ∧ t.line.tagging = x.tagging ∧
      onlyEgress s0 t ∧
      (s0.line.replies.length < 8 → t.line.node = x.node) ∧
      (8 ≤ s0.line.replies.length → t = { s0 with
        line := { s0.line with typeValue := x.typeValue, tagging := x.tagging }
        dispatcher := { s0.dispatcher with
          held := s0.dispatcher.held ++ [⟨h, [8#8, h.transaction, 0#8, 0#8, 0#8], false, some x.node⟩] } }) ∧
      (∀ v, v = { s0 with line := { s0.line with
          typeValue := x.typeValue, tagging := x.tagging, node := x.node, sequence := s0.line.sequence + 1#8
          replies := s0.line.replies ++ [⟨buildFrame h.sourceStation Config.stationAddress x.typeValue
            { dest := h.sourceNode.toNat, source := s0.line.node, kind := 0x11, flags := 0#8
              sequence := s0.line.sequence, tag := none, body := [8#8, h.transaction, 0#8, 0#8, 0#8] }, false⟩] } } →
        s0.line.replies.length < 8 → portActs .sPort v t ∧ (s0.line.sPort.transmission.isSome = true → t = v))

/-! ### Start-up and the configuration image -/

/-- R186, R187: while reset is asserted no command but START_UP and RESET_ASSERTION does anything, and in a powered part
START_UP does nothing (log entry 10's choice). Start-up leaves no unwind record, and both lines at their sampled levels with
the state that their configuration gives. With no VALID image every block is at its factory values, the line configurations
among them (R174), and the image state is ABSENT or CORRUPT; with a VALID one the parameters, the farm, the trims and bank A
come from it, and the refill of bank B runs. A GRIDHOLD found ACTIVE has set the Gate's line hold by the end of start-up. The
image that stands in the memory is judged by its mark, its format number, its CRC-32 over everything before it and its
content, in this order; that it is held as values whose bytes are free is log entry 8's choice, and what stands while reset is
asserted is log entry 23's choice. -/
def Obligations.StartUpLoadsAValidImage : Prop :=
  (∀ s : State, ∃ t, exec .resetAssertion s = .next t ∧ t.powered = false ∧ t.modes.steering = false ∧
    t.modes.mode = .off ∧ t.gate.flights = [] ∧ t.line.s2f = [] ∧
    (s.image.save = none → t.image.memory = s.image.memory) ∧
    (∀ i, s.image.save = some i → ∃ b, t.image.memory = some b ∧ b.mark = Config.imageMark ∧
      b.format = Config.imageFormat ∧ b.crc ≠ crc32 b.bytes) ∧ t.pending = s.pending) ∧
  (∀ (s : State) (answered : Bool) (a b : Level), s.powered = false →
    ∃ t, exec (.startUp answered a b) s = .next t ∧ t.powered = true ∧ t.clock = 0 ∧ t.pending = s.pending ∧
      t.image.memory = s.image.memory ∧ t.image.save = none ∧ t.image.lastSave = none ∧
      t.modes.mode = .off ∧ t.modes.steering = false ∧ t.modes.latest = ⟨.powerOn, 0, .off, .off⟩ ∧
      t.modes.unwindRecord = none ∧ t.modes.storm.level = a ∧ t.modes.gridhold.level = b ∧
      (t.modes.storm.isActive = true ↔ t.modes.storm.config.enabled = true ∧
        a = (match t.modes.storm.config.edge with | .rising => .high | .falling => .low)) ∧
      t.gate.lineHold = t.modes.gridhold.isActive ∧
      (t.modes.gridhold.isActive = true ↔ t.modes.gridhold.config.enabled = true ∧
        b = (match t.modes.gridhold.config.edge with | .rising => .high | .falling => .low)) ∧
      t.reports = (if t.modes.gridhold.isActive = true then [.holdReport true] else []) ∧
      ((answered = false ∨ ∀ b, s.image.memory = some b → b.mark ≠ Config.imageMark) → t.image.state = .absent) ∧
      (∀ b, answered = true → s.image.memory = some b → b.mark = Config.imageMark →
        (b.format ≠ Config.imageFormat ∨ b.crc ≠ crc32 b.bytes ∨ b.content.contentOk = false) →
        t.image.state = .corrupt) ∧
      ((answered = false ∨ ∀ b, s.image.memory = some b → b.mark ≠ Config.imageMark ∨ b.format ≠ Config.imageFormat ∨
          b.crc ≠ crc32 b.bytes ∨ b.content.contentOk = false) →
        t.image.savedValid = none ∧ t.line = State.reset.line ∧ t.fleet = State.reset.fleet ∧
        t.wind = State.reset.wind ∧ t.tables = State.reset.tables ∧ t.planner = State.reset.planner ∧
        t.gate = { State.reset.gate with lineHold := t.gate.lineHold } ∧ t.upkeep = State.reset.upkeep ∧
        t.monitor = State.reset.monitor ∧ t.dispatcher = State.reset.dispatcher ∧
        t.modes.storm.config = ⟨true, .rising⟩ ∧ t.modes.gridhold.config = ⟨true, .rising⟩) ∧
      (∀ b i, answered = true → s.image.memory = some b → b.mark = Config.imageMark → b.format = Config.imageFormat →
        b.crc = crc32 b.bytes → b.content = i → i.contentOk = true →
        t.image.state = .valid ∧ t.image.savedValid = some i.valid ∧ t.line.node = i.node ∧
        t.line.typeValue = i.typeValue ∧ t.line.tagging = i.tagging ∧ t.fleet.statics = i.statics ∧
        t.fleet.rows = i.rows ∧ (∀ k, t.fleet.dynamic k = .unseen) ∧ t.wind = { State.reset.wind with params := i.wind } ∧
        t.planner = { State.reset.planner with params := i.plan } ∧
        t.gate = { State.reset.gate with
          budgets := i.budgets, urgentBudget := i.urgentBudget, lineHold := t.gate.lineHold } ∧
        t.monitor.trims = i.trims ∧ t.monitor.theta = i.theta ∧ t.monitor.tau = i.tau ∧
        t.monitor.learning = i.learning ∧ t.dispatcher.destinations = i.destinations ∧
        t.dispatcher.fold = i.fold ∧ t.modes.storm.config = i.storm ∧ t.modes.gridhold.config = i.gridhold ∧
        t.tables.bankA = i.bank ∧ t.tables.active = .a ∧ t.tables.refill = some ⟨none⟩ ∧
        (t.tables.valid = true ↔ ∀ k, k < i.wind.sectors → sectorValid t (i.bank.sector k)))) ∧
  (∀ (s : State) (answered : Bool) (a b : Level), s.powered = true → exec (.startUp answered a b) s = .next s) ∧
  (∀ (s : State) (c : Instr), s.powered = false → c ≠ .resetAssertion → (∀ answered a b, c ≠ .startUp answered a b) →
    exec c s = .next s)

/-- R188, R177, R185: SAVE_IMAGE starts a save of the content that stands, reports it to the Table Store and is answered at
the save's end, BUSY while one runs; the end leaves the image VALID with that content, or CORRUPT, or unchanged, by what
happened, and clears the unit's busy mark. What is written is the mark, the format number and the content, the bank last, with
the CRC-32 over them; a failed write leaves a CRC that does not match (log entry 8's choice). A save that outlives a RESTART
ends so with no answer. That the content is taken when the save starts is log entry 28's reading, that the Table Store takes
the report of the start within the event log entry 20's choice, and the result bytes are log entry 7's reading. -/
def Obligations.SaveWritesTheContent : Prop :=
  (∀ (s s0 : State) (h : ReqHead), s.handsOver (.saveImage h (some ())) h 9 s0 →
    (s0.image.save ≠ none → answers (.saveImage h (some ())) s h 9 .busy [] s0) ∧
    (s0.image.save = none → exec (.saveImage h (some ())) s = .next { s0 with
      image := { s0.image with
        save := some {
          node := s0.line.node, typeValue := s0.line.typeValue, tagging := s0.line.tagging, statics := s0.fleet.statics
          rows := s0.fleet.rows, wind := s0.wind.params, bank := s0.tables.bank s0.tables.active
          valid := s0.tables.valid, plan := s0.planner.params, budgets := s0.gate.budgets
          urgentBudget := s0.gate.urgentBudget, trims := s0.monitor.trims, theta := s0.monitor.theta
          tau := s0.monitor.tau, learning := s0.monitor.learning, storm := s0.modes.storm.config
          gridhold := s0.modes.gridhold.config, destinations := s0.dispatcher.destinations
          fold := s0.dispatcher.fold } }
      dispatcher := { s0.dispatcher with imageLate := some h }
      tables := { s0.tables with saveInProgress := true }
      reports := s0.reports.erase (.swapConditionReport (.saveInProgress false)) })) ∧
  (∀ (s : State) (i : Image) (o : SaveOutcome), s.powered = true → s.image.save = some i →
    ∃ (u : State) (st : Status) (result : List Byte),
      (∀ h, s.dispatcher.imageLate = some h → exec (.saveEnd o) s = .next (u.answer h 9 st result)) ∧
      (s.dispatcher.imageLate = none → exec (.saveEnd o) s = .next u) ∧
      u = { s with
        image := u.image, dispatcher := { s.dispatcher with imageLate := none }
        reports := s.reports ++ [.swapConditionReport (.saveInProgress false)] } ∧
      (o = .writtenAndReadBack → st = .ok ∧ result = (if i.valid = true then 0#8 else 1#8) :: u32 s.now ∧
        u.image = ⟨.valid, some i.valid, none, some (true, s.now), some ⟨Config.imageMark, Config.imageFormat, i,
          crc32 (Config.imageMark ++ Config.imageFormat ++ Config.contentBytes { i with bank := .zeroed } ++
            Config.bankBytes i.bank)⟩⟩) ∧
      (o = .noAnswer → st = .writeFailed ∧ result = [] ∧
        u.image = { s.image with save := none, lastSave := some (false, s.now) }) ∧
      (o = .writeFailed → st = .writeFailed ∧ result = [] ∧
        ∃ b, u.image = ⟨.corrupt, none, none, some (false, s.now), some b⟩ ∧ b.mark = Config.imageMark ∧
          b.format = Config.imageFormat ∧ b.crc ≠ crc32 b.bytes))

/-! ### Invariants -/

/-- Every step keeps, from every state that has it, each of: the capacities of the queues and the ring (R27-R30, R114), the
numbering of the records in the ring (R113), STEERING agreeing with the mode (R159), the trims' range (R146), the canonical form
of the sparse tables, and the agreement of the banks with the farm: every sector record 0..S-1 of a VALID active bank lists every
populated row once (R74), and a PENDING commit's shadow stays as it was validated (R79). Where the command at the front takes no
report of a mode to the Estimator or the Planner that no block made (log entry 6), every step also keeps: the two come to the mode
of the Mode Controller by the reports under way to them (R160); where the Planner does, while the active bank is INVALID the mode
is OFF and no build runs or can start (R74), so that no plan is built from a bank that disagrees with the rows; and where the
Estimator does, the candidate and the dwell pair have a sector below S (R63). That a geometry request is BUSY while a commit is PENDING is log entry
42's reading, that these reports are taken in their order log entry 43's, and that they are taken by a geometry request log entry
52's. -/
def Obligations.EveryStepKeepsInvariants : Prop :=
  ∀ s t : State, step s = .next t →
    (queuesBounded s → queuesBounded t) ∧ (ringOrdered s → ringOrdered t) ∧ (steeringAgrees s → steeringAgrees t) ∧
      (trimsInRange s → trimsInRange t) ∧ (tablesCanonical s → tablesCanonical t) ∧ (banksAgree s → banksAgree t) ∧
      (modeReportsMade s →
        (plannerFollows s → plannerFollows t) ∧ (estimatorFollows s → estimatorFollows t) ∧
        (plannerFollows s → buildsReadValidBank s → buildsReadValidBank t) ∧
        (estimatorFollows s → candidatesBelowS s → candidatesBelowS t))

/-- The reset state meets every invariant stated above, and in an ordered ring no two records share a number. The reset
state is the end of start-up with no image and both lines LOW (log entry 2). -/
def Obligations.ResetMeetsInvariants : Prop :=
  (estimateInRange State.reset ∧ slotsBounded State.reset ∧ queuesBounded State.reset ∧ ringOrdered State.reset ∧
    steeringAgrees State.reset ∧ trimsInRange State.reset ∧ tablesCanonical State.reset ∧ banksAgree State.reset ∧
    plannerFollows State.reset ∧ estimatorFollows State.reset ∧ buildsReadValidBank State.reset ∧
    candidatesBelowS State.reset) ∧
  ∀ s : State, ringOrdered s → ringDistinct s
end

