-- ==== Sys2Proof/Laws/Requests.lean ====
section
/-! SUPPORT. What a request that is handed to its unit comes to: one lemma per shape of request, so that a statement about a
request is proved about its work alone. -/

namespace Sys2Proof.Machine

/-- A request that is handed to its unit does its unit's work on the state without the request. -/
theorem State.handed_of_handsOver {s s0 : State} {c : Instr} {h : ReqHead} {u : Nat} (work : State → State)
    (hs : s.handsOver c h u s0) : s.handed c h u work = .next (work s0) := by
  obtain ⟨h1, h2, h3⟩ := hs
  simp [State.handed, h1, h2, h3]

/-- A request answered at once is answered by its unit's work on the state without the request. -/
theorem State.atOnce_of_handsOver {s s0 : State} {c : Instr} {h : ReqHead} {u : Nat} (work : State → Answer)
    (hs : s.handsOver c h u s0) :
    s.atOnce c h u work = .next ((work s0).1.answer h u (work s0).2.1 (work s0).2.2) := by
  simp [State.atOnce, State.handed_of_handsOver _ hs]

/-- A request that is not taken changes nothing. -/
theorem State.handed_of_not_taken {s : State} {c : Instr} {h : ReqHead} {u : Nat} (work : State → State)
    (hs : s.takeRequest c = none) : s.handed c h u work = .next s := by
  simp [State.handed, hs]

/-- A request taken with transaction 255 is answered BAD_ARG (R175, check 1). -/
theorem State.handed_of_255 {s s0 : State} {c : Instr} {h : ReqHead} {u : Nat} (work : State → State)
    (hs : s.takeRequest c = some s0) (ht : h.transaction = 255#8) :
    s.handed c h u work = .next (s0.answer h u .badArg []) := by
  simp [State.handed, hs, ht]

/-- A request taken for a busy unit is answered BUSY (R175, check 4; R177). -/
theorem State.handed_of_busy {s s0 : State} {c : Instr} {h : ReqHead} {u : Nat} (work : State → State)
    (hs : s.takeRequest c = some s0) (ht : h.transaction ≠ 255#8) (hb : s0.dispatcher.unitBusy u = true) :
    s.handed c h u work = .next (s0.answer h u .busy []) := by
  simp [State.handed, hs, ht, hb]

/-- No request is taken while reset is asserted, a reply is held or RESTART has been taken, nor one behind another (R176). -/
theorem State.takeRequest_eq_none {s : State} {c : Instr}
    (h : s.powered = false ∨ s.dispatcher.held ≠ [] ∨ s.dispatcher.restartTaken = true ∨
      ∃ r rest, s.line.inbox = r :: rest ∧ requestInstr r ≠ c ∧ c ≠ .unknownRequest r) : s.takeRequest c = none := by
  unfold State.takeRequest
  rcases h with h | h | h | ⟨r, rest, h, h1, h2⟩
  · simp [h]
  · simp [Dispatcher.ready, h]
  · simp [Dispatcher.ready, h]
  · simp [h, h1, h2]

/-- Taking a request changes the inbox alone. -/
theorem State.takeRequest_spec {s s0 : State} {c : Instr} (h : s.takeRequest c = some s0) :
    s.powered = true ∧ s.dispatcher.ready = true ∧ s0 = { s with line := { s.line with inbox := s.line.inbox.tail } } := by
  simp only [State.takeRequest] at h
  split at h
  · rename_i hp
    simp only [Bool.and_eq_true] at hp
    split at h
    · rename_i hi
      refine ⟨hp.1, hp.2, ?_⟩
      rw [hi]
      injection h with h
      rw [← h, show ([] : List Request).tail = s.line.inbox from hi.symm]
    · rename_i r rest hi
      split at h
      · refine ⟨hp.1, hp.2, ?_⟩
        injection h with h
        rw [← h, hi]
        rfl
      · cases h
  · cases h

/-- The clamp of a value stays between its bounds. -/
theorem clamp_bounds {lo hi x : Int} (h : lo ≤ hi) : lo ≤ clamp lo hi x ∧ clamp lo hi x ≤ hi := by
  unfold clamp; split <;> (try split) <;> omega

/-- The clamp of a value within its bounds is the value. -/
theorem clamp_of_within {lo hi x : Int} (h1 : lo ≤ x) (h2 : x ≤ hi) : clamp lo hi x = x := by
  unfold clamp; split <;> (try split) <;> omega

/-- The clamp of a non-negative value stays between its bounds. -/
theorem clampNat_bounds {lo hi x : Nat} (h : lo ≤ hi) : lo ≤ clampNat lo hi x ∧ clampNat lo hi x ≤ hi := by
  unfold clampNat; split <;> (try split) <;> omega

end Sys2Proof.Machine
end

