-- ==== Sys2Proof/Laws/Egress.lean ====
section
/-! SUPPORT. What the operations of the egress side can change: the Line Path, the Dispatcher's waiting replies and notices,
the room events and the cause for a scan (`onlyEgress`), one lemma per operation; and what the arbiter of a port sends
(`portActs`). -/

namespace Sys2Proof.Machine

/-- Nothing done is within the egress side. -/
theorem onlyEgress.rfl {s : State} : onlyEgress s s := Eq.refl s

/-- One egress effect after another is an egress effect. -/
theorem onlyEgress.trans {s t u : State} (h1 : onlyEgress s t) (h2 : onlyEgress t u) : onlyEgress s u := by
  unfold onlyEgress at *
  rw [h2, h1]

/-- A change of the Line Path is an egress effect. -/
theorem onlyEgress_onLine (f : LinePath → LinePath) (s : State) : onlyEgress s (s.onLine f) := Eq.refl _

/-- A PAUSE put to wait is an egress effect (R33). -/
theorem onlyEgress_wantPause (p : Port) (q : Nat) (s : State) : onlyEgress s (s.wantPause p q) := onlyEgress_onLine _ _

/-- The pause released at a departure is an egress effect (R33). -/
theorem onlyEgress_forwardDeparted (p : Port) (s : State) : onlyEgress s (s.forwardDeparted p) := by
  unfold State.forwardDeparted
  split
  · exact (onlyEgress_onLine _ s).trans (onlyEgress_wantPause _ _ _)
  · exact .rfl

/-- The pause asserted at an arrival is an egress effect (R33). -/
theorem onlyEgress_forwardArrived (p : Port) (s : State) : onlyEgress s (s.forwardArrived p) := by
  unfold State.forwardArrived
  dsimp only
  split
  · split
    · exact onlyEgress_wantPause _ _ _
    · exact .rfl
  · split
    · exact (onlyEgress_onLine _ s).trans (onlyEgress_wantPause _ _ _)
    · exact .rfl

/-- The sending of a forwarded frame is an egress effect (R31, R32). -/
theorem onlyEgress_sendForward (p : Port) (f : Frame) (rest : List Frame) (s : State) :
    onlyEgress s (s.sendForward p f rest) :=
  (onlyEgress_onLine _ s).trans (onlyEgress_forwardDeparted _ _)

/-- The sending of an injected frame is an egress effect: the room event and the cause for a scan (R30, R117). -/
theorem onlyEgress_sendInjection (e : Injection) (rest : List Injection) (s : State) :
    onlyEgress s (s.sendInjection e rest) := Eq.refl _

/-- The F-egress arbiter has an egress effect (R31). -/
theorem onlyEgress_arbitrateF (s : State) : onlyEgress s s.arbitrateF := by
  unfold State.arbitrateF
  dsimp only
  split
  · exact .rfl
  · split
    · exact onlyEgress_onLine _ _
    · split
      · exact .rfl
      · split
        · exact .rfl
        · exact onlyEgress_sendForward _ _ _ _
        · exact onlyEgress_sendInjection _ _ _
        · split
          · exact onlyEgress_sendForward _ _ _ _
          · exact onlyEgress_sendInjection _ _ _

/-- A reply placed is an egress effect (R176, R25). -/
theorem onlyEgress_enqueueReply (r : Reply) (s : State) : onlyEgress s (s.enqueueReply r) := Eq.refl _

/-- A held reply that takes a freed place is an egress effect (R176). -/
theorem onlyEgress_placeHeld (s : State) : onlyEgress s s.placeHeld := by
  unfold State.placeHeld
  split
  · exact .rfl
  · split
    · exact Eq.refl _
    · exact .rfl

/-- The movement of notices is an egress effect (R180). -/
theorem onlyEgress_moveFirstNotice (ns : List PendingNotice) (s : State) : onlyEgress s (s.moveFirstNotice ns) := by
  induction ns with
  | nil => exact Eq.refl _
  | cons n rest ih =>
    unfold State.moveFirstNotice
    dsimp only
    split
    · exact ih
    · exact Eq.refl _

/-- The ready signal has an egress effect (R29, R180). -/
theorem onlyEgress_signalReady (s : State) : onlyEgress s s.signalReady := by
  unfold State.signalReady
  split
  · exact onlyEgress_moveFirstNotice _ _
  · exact .rfl

/-- The sending of a telegram of the reply queue is an egress effect (R32). -/
theorem onlyEgress_sendReply (e : QueuedReply) (rest : List QueuedReply) (s : State) :
    onlyEgress s (s.sendReply e rest) :=
  ((onlyEgress_onLine _ s).trans (onlyEgress_placeHeld _)).trans (onlyEgress_signalReady _)

/-- The S-egress arbiter has an egress effect (R32). -/
theorem onlyEgress_arbitrateS (s : State) : onlyEgress s s.arbitrateS := by
  unfold State.arbitrateS
  dsimp only
  split
  · exact .rfl
  · split
    · exact onlyEgress_onLine _ _
    · split
      · exact .rfl
      · split
        · exact onlyEgress_sendReply _ _ _
        · split
          · exact .rfl
          · exact onlyEgress_sendForward _ _ _ _
          · exact onlyEgress_sendReply _ _ _
          · split
            · exact onlyEgress_sendForward _ _ _ _
            · exact onlyEgress_sendReply _ _ _

/-- The arbiter of either port has an egress effect. -/
theorem onlyEgress_arbitrate (p : Port) (s : State) : onlyEgress s (s.arbitrate p) := by
  cases p
  · exact onlyEgress_arbitrateS s
  · exact onlyEgress_arbitrateF s

/-- A BIAS telegram submitted is an egress effect (R137, R138). -/
theorem onlyEgress_submitBias (cls : MoveClass) (t : Nat) (s : State) : onlyEgress s (s.submitBias cls t) := by
  unfold State.submitBias
  split
  · exact .rfl
  · split
    · exact .rfl
    · refine onlyEgress.trans ?_ (onlyEgress_arbitrateF _)
      exact Eq.refl _

/-- A reply placed or held is an egress effect (R176, R177). -/
theorem onlyEgress_placeReply (r : Reply) (s : State) : onlyEgress s (s.placeReply r) := by
  unfold State.placeReply
  split
  · exact (onlyEgress_enqueueReply r s).trans (onlyEgress_arbitrateS _)
  · exact Eq.refl _

/-! ### What an arbiter sends -/

/-- The sending of a forwarded frame, said once (R31-R33). -/
theorem forwardLeaves_sendForward (p : Port) (f : Frame) (fs : List Frame) (s : State) :
    forwardLeaves p f fs s (s.sendForward p f fs) := by
  unfold forwardLeaves State.sendForward State.forwardDeparted State.wantPause
  cases p <;>
  · simp only [State.onLine, LinePath.setForward, LinePath.setPort, LinePath.port, LinePath.forward, LinePath.asserted,
      LinePath.setAsserted, otherPort, Config.pauseLow, Bool.and_eq_true, beq_iff_eq]
    split
    · rename_i h
      split <;> simp_all
    · simp

/-- The ready signal, said once (R29, R180). -/
theorem readySignalled_signalReady (s : State) : readySignalled s s.signalReady := by
  have hm : ∀ (ns : List PendingNotice) (w : State), w.line.replies = [] →
      ((∀ n ∈ ns, w.dispatcher.destinations.getD (n.cls % w.dispatcher.fold) 0 = 0) →
        w.moveFirstNotice ns = { w with dispatcher := { w.dispatcher with pendingNotices := [] } }) ∧
      (∀ skipped n rest dest, ns = skipped ++ n :: rest →
        (∀ x ∈ skipped, w.dispatcher.destinations.getD (x.cls % w.dispatcher.fold) 0 = 0) →
        w.dispatcher.destinations.getD (n.cls % w.dispatcher.fold) 0 = dest → dest ≠ 0 →
        w.moveFirstNotice ns = { w with
          dispatcher := { w.dispatcher with pendingNotices := rest }
          line := { w.line with
            sequence := w.line.sequence + 1#8
            replies := [⟨w.noticeFrame n dest, false⟩] } }) := by
    intro ns w hr
    induction ns with
    | nil => exact ⟨fun _ => rfl, fun skipped n rest dest h => by simp at h⟩
    | cons m ms ih =>
      refine ⟨fun h => ?_, fun skipped n rest dest h hs hd h0 => ?_⟩
      · refine Eq.trans (if_pos (show w.dispatcher.destination m.cls = 0 from h m (by simp))) ?_
        exact ih.1 fun n hn => h n (by simp [hn])
      · cases skipped with
        | nil =>
          simp only [List.nil_append, List.cons.injEq] at h
          obtain ⟨rfl, rfl⟩ := h
          refine Eq.trans (if_neg (show w.dispatcher.destination m.cls ≠ 0 from fun he => h0 (hd.symm.trans he))) ?_
          subst hd
          simp [Dispatcher.destination, State.onLine, State.advanceSequence, State.onDispatcher, hr]
        | cons x xs =>
          simp only [List.cons_append, List.cons.injEq] at h
          obtain ⟨rfl, h⟩ := h
          refine Eq.trans (if_pos (show w.dispatcher.destination m.cls = 0 from hs m (by simp))) ?_
          exact ih.2 xs n rest dest h (fun y hy => hs y (by simp [hy])) hd h0
  unfold readySignalled State.signalReady LinePath.noticeReady
  constructor
  · rintro (h | h | h)
    · simp [h]
    · cases hp : s.line.sPort.paused with
      | none => exact absurd hp h
      | some q => simp
    · simp [h]
  · intro h1 h2 h3
    rw [if_pos (by simp [h1, h2, h3])]
    exact hm _ s h1

/-- The sending of a telegram of the reply queue, said once (R32, R176, R29). -/
theorem replyLeaves_sendReply (e : QueuedReply) (es : List QueuedReply) (s : State) :
    replyLeaves e es s (s.sendReply e es) := by
  intro u hu
  have hs : s.sendReply e es = u.placeHeld.signalReady := by rw [hu]; rfl
  have hd : u.dispatcher = s.dispatcher := by rw [hu]
  have hr : u.line.replies = es := by rw [hu]
  rw [hs]
  refine ⟨fun h => ?_, fun h h8 => ?_, fun r rest h h8 => ?_⟩
  · have : u.placeHeld = u := by unfold State.placeHeld; rw [hd, h]
    rw [this]
    exact readySignalled_signalReady u
  · have : u.placeHeld = u := by
      unfold State.placeHeld
      cases hh : s.dispatcher.held with
      | nil => exact absurd hh h
      | cons r rest => simp [hd, hh, hr, Config.replyCapacity, Nat.not_lt.2 h8]
    rw [this]
    exact (readySignalled_signalReady u).1 (Or.inr (Or.inr (by rw [hd]; exact h)))
  · have hp : u.placeHeld = (u.onDispatcher fun d => { d with held := rest }).enqueueReply r := by
      unfold State.placeHeld
      simp [hd, h, hr, Config.replyCapacity, h8]
    rw [hp, (readySignalled_signalReady _).1 (Or.inl (by simp [State.enqueueReply, State.advanceSequence, State.onLine]))]
    subst hu
    rfl

/-- The F-egress arbiter, said once (R31). -/
theorem fPortActs_arbitrateF {s : State} (h : s.line.fPort.transmission = none) : fPortActs s s.arbitrateF := by
  refine ⟨fun q hq => ?_, fun hw => ⟨fun hp => ?_, fun hp => ⟨fun h1 h2 => ?_, fun f fs h1 h2 => ?_, fun e es h1 h2 => ?_⟩⟩⟩
  · simp [State.arbitrateF, h, hq, State.onLine]
  · simp [State.arbitrateF, h, hw, Option.isSome_iff_ne_none.2 hp]
  · simp [State.arbitrateF, h, hw, hp, h1, h2]
  · suffices s.arbitrateF = s.sendForward .sPort f fs from this ▸ forwardLeaves_sendForward _ _ _ _
    cases hi : s.line.injections <;> simp_all [State.arbitrateF]
  · suffices s.arbitrateF = s.sendInjection e es from this
    cases hi : s.line.s2f <;> simp_all [State.arbitrateF]

/-- The S-egress arbiter, said once (R32). -/
theorem sPortActs_arbitrateS {s : State} (h : s.line.sPort.transmission = none) : sPortActs s s.arbitrateS := by
  refine ⟨fun q hq => ?_, fun hw => ⟨fun hp => ?_, fun hp => ⟨fun before e after hr he hb => ?_, fun hn => ?_⟩⟩⟩
  · simp [State.arbitrateS, h, hq, State.onLine]
  · simp [State.arbitrateS, h, hw, Option.isSome_iff_ne_none.2 hp]
  · have hf : s.line.replies.find? (fun e => e.restartReply) = some e := by
      rw [hr, List.find?_append, List.find?_eq_none.2 fun x hx => by simp [hb x hx]]
      simp [he]
    have hx : s.line.replies.erase e = before ++ after := by
      rw [hr, List.erase_append_right _ fun hm => by simp [hb e hm] at he]
      simp
    suffices s.arbitrateS = s.sendReply e (before ++ after) from this ▸ replyLeaves_sendReply _ _ _
    simp [State.arbitrateS, h, hw, hp, hf, hx]
  · have hf : s.line.replies.find? (fun e => e.restartReply) = none :=
      List.find?_eq_none.2 fun x hx => by simp [hn x hx]
    refine ⟨fun h1 h2 => ?_, fun f fs h1 h2 => ?_, fun e es h1 h2 => ?_⟩
    · simp [State.arbitrateS, h, hw, hp, h1, h2]
    · suffices s.arbitrateS = s.sendForward .fPort f fs from this ▸ forwardLeaves_sendForward _ _ _ _
      simp only [State.arbitrateS, h, hw, hp, hf, h1, Option.isSome_none, Bool.false_eq_true, if_false]
      clear hf hn
      cases hi : s.line.replies <;> simp_all
    · suffices s.arbitrateS = s.sendReply e es from this ▸ replyLeaves_sendReply _ _ _
      rw [h1] at hf
      simp only [State.arbitrateS, h, hw, hp, hf, h1, Option.isSome_none, Bool.false_eq_true, if_false]
      clear hf hn
      cases hi : s.line.f2s <;> simp_all

/-- The arbiter of either port, said once: behind a busy transmitter it does nothing. -/
theorem portActs_arbitrate (p : Port) (s : State) : portActs p s (s.arbitrate p) := by
  unfold portActs
  cases p
  · refine ⟨fun h => ?_, fun h => sPortActs_arbitrateS h⟩
    simp [State.arbitrate, State.arbitrateS, Option.isSome_iff_ne_none.2 (show s.line.sPort.transmission ≠ none from h)]
  · refine ⟨fun h => ?_, fun h => fPortActs_arbitrateF h⟩
    simp [State.arbitrate, State.arbitrateF, Option.isSome_iff_ne_none.2 (show s.line.fPort.transmission ≠ none from h)]

/-- A submitted BIAS telegram joins the injection queue by its class, and the F-port's arbiter then acts (R30, R31, R137). -/
theorem portActs_submitBias {s : State} {i a : Nat} (cls : MoveClass) (ha : (s.fleet.static i).address = some a)
    (hm : s.line.modeIn ≠ .off) (hl : s.line.injections.length < 32) :
    portActs .fPort { s with line := { s.line with
      sequence := s.line.sequence + 1#8
      injections := joinInjections ⟨cls, s.biasFrame a (s.commandedBias i)⟩ s.line.injections } } (s.submitBias cls i) := by
  have h : ¬ (s.line.modeIn = .off ∨ Config.injectionCapacity ≤ s.line.injections.length) := by
    simp only [Config.injectionCapacity, not_or]
    exact ⟨hm, Nat.not_le.2 hl⟩
  simp only [State.submitBias, ha, if_neg h]
  exact portActs_arbitrate .fPort _

/-- A notice that finds the place of its class empty joins, the S-egress is signalled ready and its arbiter acts (R179, R180). -/
theorem enterNotice_joins {s : State} {n : PendingNotice} (hd : s.dispatcher.destination n.cls ≠ 0)
    (hn : ∀ x ∈ s.dispatcher.pendingNotices, x.cls ≠ n.cls) :
    ∃ x, readySignalled { s with
        dispatcher := { s.dispatcher with pendingNotices := s.dispatcher.pendingNotices ++ [n] } } x ∧
      portActs .sPort x (s.enterNotice n) := by
  have h : (s.dispatcher.pendingNotices.any fun x => x.cls == n.cls) = false := by
    rw [List.any_eq_false]
    intro x hx
    simpa using hn x hx
  refine ⟨_, readySignalled_signalReady _, ?_⟩
  simp only [State.enterNotice, if_neg hd, h]
  exact portActs_arbitrate .sPort _

/-- The frame that joins a forward queue asserts a pause as R33 says, and the other port's arbiter then acts (R27, R31, R32). -/
theorem forwardJoins_joinForward (p : Port) (f : Frame) (s : State) :
    ∃ v, forwardJoins p f s v ∧ portActs (otherPort p) v (s.joinForward p f) := by
  refine ⟨_, ?_, portActs_arbitrate _ _⟩
  intro depth asserts hd ha
  unfold State.forwardArrived State.wantPause
  cases p <;>
  · simp only [State.onLine, LinePath.setForward, LinePath.setPort, LinePath.port, LinePath.forward, LinePath.asserted,
      LinePath.setAsserted, otherPort, Config.pauseHigh, Config.pauseMax, List.length_append, List.length_singleton] at *
    rw [← hd]
    repeat' split
    all_goals first | (simp_all; done) | (simp_all; omega)

end Sys2Proof.Machine
end

