-- ==== Sys2Proof/Laws/State.lean ====
section
/-! SUPPORT. What each update of the state leaves in each field: one lemma per field per update. -/

namespace Sys2Proof.Machine

section onLine
variable (f : LinePath → LinePath) (s : State)
@[simp] theorem State.onLine_powered : (s.onLine f).powered = s.powered := rfl
@[simp] theorem State.onLine_clock : (s.onLine f).clock = s.clock := rfl
@[simp] theorem State.onLine_line : (s.onLine f).line = f s.line := rfl
@[simp] theorem State.onLine_fleet : (s.onLine f).fleet = s.fleet := rfl
@[simp] theorem State.onLine_wind : (s.onLine f).wind = s.wind := rfl
@[simp] theorem State.onLine_tables : (s.onLine f).tables = s.tables := rfl
@[simp] theorem State.onLine_planner : (s.onLine f).planner = s.planner := rfl
@[simp] theorem State.onLine_gate : (s.onLine f).gate = s.gate := rfl
@[simp] theorem State.onLine_upkeep : (s.onLine f).upkeep = s.upkeep := rfl
@[simp] theorem State.onLine_monitor : (s.onLine f).monitor = s.monitor := rfl
@[simp] theorem State.onLine_modes : (s.onLine f).modes = s.modes := rfl
@[simp] theorem State.onLine_dispatcher : (s.onLine f).dispatcher = s.dispatcher := rfl
@[simp] theorem State.onLine_image : (s.onLine f).image = s.image := rfl
@[simp] theorem State.onLine_reports : (s.onLine f).reports = s.reports := rfl
@[simp] theorem State.onLine_notices : (s.onLine f).notices = s.notices := rfl
@[simp] theorem State.onLine_pending : (s.onLine f).pending = s.pending := rfl
end onLine

section onFleet
variable (f : Fleet → Fleet) (s : State)
@[simp] theorem State.onFleet_powered : (s.onFleet f).powered = s.powered := rfl
@[simp] theorem State.onFleet_clock : (s.onFleet f).clock = s.clock := rfl
@[simp] theorem State.onFleet_line : (s.onFleet f).line = s.line := rfl
@[simp] theorem State.onFleet_fleet : (s.onFleet f).fleet = f s.fleet := rfl
@[simp] theorem State.onFleet_wind : (s.onFleet f).wind = s.wind := rfl
@[simp] theorem State.onFleet_tables : (s.onFleet f).tables = s.tables := rfl
@[simp] theorem State.onFleet_planner : (s.onFleet f).planner = s.planner := rfl
@[simp] theorem State.onFleet_gate : (s.onFleet f).gate = s.gate := rfl
@[simp] theorem State.onFleet_upkeep : (s.onFleet f).upkeep = s.upkeep := rfl
@[simp] theorem State.onFleet_monitor : (s.onFleet f).monitor = s.monitor := rfl
@[simp] theorem State.onFleet_modes : (s.onFleet f).modes = s.modes := rfl
@[simp] theorem State.onFleet_dispatcher : (s.onFleet f).dispatcher = s.dispatcher := rfl
@[simp] theorem State.onFleet_image : (s.onFleet f).image = s.image := rfl
@[simp] theorem State.onFleet_reports : (s.onFleet f).reports = s.reports := rfl
@[simp] theorem State.onFleet_notices : (s.onFleet f).notices = s.notices := rfl
@[simp] theorem State.onFleet_pending : (s.onFleet f).pending = s.pending := rfl
end onFleet

section onWind
variable (f : Wind → Wind) (s : State)
@[simp] theorem State.onWind_powered : (s.onWind f).powered = s.powered := rfl
@[simp] theorem State.onWind_clock : (s.onWind f).clock = s.clock := rfl
@[simp] theorem State.onWind_line : (s.onWind f).line = s.line := rfl
@[simp] theorem State.onWind_fleet : (s.onWind f).fleet = s.fleet := rfl
@[simp] theorem State.onWind_wind : (s.onWind f).wind = f s.wind := rfl
@[simp] theorem State.onWind_tables : (s.onWind f).tables = s.tables := rfl
@[simp] theorem State.onWind_planner : (s.onWind f).planner = s.planner := rfl
@[simp] theorem State.onWind_gate : (s.onWind f).gate = s.gate := rfl
@[simp] theorem State.onWind_upkeep : (s.onWind f).upkeep = s.upkeep := rfl
@[simp] theorem State.onWind_monitor : (s.onWind f).monitor = s.monitor := rfl
@[simp] theorem State.onWind_modes : (s.onWind f).modes = s.modes := rfl
@[simp] theorem State.onWind_dispatcher : (s.onWind f).dispatcher = s.dispatcher := rfl
@[simp] theorem State.onWind_image : (s.onWind f).image = s.image := rfl
@[simp] theorem State.onWind_reports : (s.onWind f).reports = s.reports := rfl
@[simp] theorem State.onWind_notices : (s.onWind f).notices = s.notices := rfl
@[simp] theorem State.onWind_pending : (s.onWind f).pending = s.pending := rfl
end onWind

section onTables
variable (f : TableStore → TableStore) (s : State)
@[simp] theorem State.onTables_powered : (s.onTables f).powered = s.powered := rfl
@[simp] theorem State.onTables_clock : (s.onTables f).clock = s.clock := rfl
@[simp] theorem State.onTables_line : (s.onTables f).line = s.line := rfl
@[simp] theorem State.onTables_fleet : (s.onTables f).fleet = s.fleet := rfl
@[simp] theorem State.onTables_wind : (s.onTables f).wind = s.wind := rfl
@[simp] theorem State.onTables_tables : (s.onTables f).tables = f s.tables := rfl
@[simp] theorem State.onTables_planner : (s.onTables f).planner = s.planner := rfl
@[simp] theorem State.onTables_gate : (s.onTables f).gate = s.gate := rfl
@[simp] theorem State.onTables_upkeep : (s.onTables f).upkeep = s.upkeep := rfl
@[simp] theorem State.onTables_monitor : (s.onTables f).monitor = s.monitor := rfl
@[simp] theorem State.onTables_modes : (s.onTables f).modes = s.modes := rfl
@[simp] theorem State.onTables_dispatcher : (s.onTables f).dispatcher = s.dispatcher := rfl
@[simp] theorem State.onTables_image : (s.onTables f).image = s.image := rfl
@[simp] theorem State.onTables_reports : (s.onTables f).reports = s.reports := rfl
@[simp] theorem State.onTables_notices : (s.onTables f).notices = s.notices := rfl
@[simp] theorem State.onTables_pending : (s.onTables f).pending = s.pending := rfl
end onTables

section onPlanner
variable (f : Planner → Planner) (s : State)
@[simp] theorem State.onPlanner_powered : (s.onPlanner f).powered = s.powered := rfl
@[simp] theorem State.onPlanner_clock : (s.onPlanner f).clock = s.clock := rfl
@[simp] theorem State.onPlanner_line : (s.onPlanner f).line = s.line := rfl
@[simp] theorem State.onPlanner_fleet : (s.onPlanner f).fleet = s.fleet := rfl
@[simp] theorem State.onPlanner_wind : (s.onPlanner f).wind = s.wind := rfl
@[simp] theorem State.onPlanner_tables : (s.onPlanner f).tables = s.tables := rfl
@[simp] theorem State.onPlanner_planner : (s.onPlanner f).planner = f s.planner := rfl
@[simp] theorem State.onPlanner_gate : (s.onPlanner f).gate = s.gate := rfl
@[simp] theorem State.onPlanner_upkeep : (s.onPlanner f).upkeep = s.upkeep := rfl
@[simp] theorem State.onPlanner_monitor : (s.onPlanner f).monitor = s.monitor := rfl
@[simp] theorem State.onPlanner_modes : (s.onPlanner f).modes = s.modes := rfl
@[simp] theorem State.onPlanner_dispatcher : (s.onPlanner f).dispatcher = s.dispatcher := rfl
@[simp] theorem State.onPlanner_image : (s.onPlanner f).image = s.image := rfl
@[simp] theorem State.onPlanner_reports : (s.onPlanner f).reports = s.reports := rfl
@[simp] theorem State.onPlanner_notices : (s.onPlanner f).notices = s.notices := rfl
@[simp] theorem State.onPlanner_pending : (s.onPlanner f).pending = s.pending := rfl
end onPlanner

section onGate
variable (f : Gate → Gate) (s : State)
@[simp] theorem State.onGate_powered : (s.onGate f).powered = s.powered := rfl
@[simp] theorem State.onGate_clock : (s.onGate f).clock = s.clock := rfl
@[simp] theorem State.onGate_line : (s.onGate f).line = s.line := rfl
@[simp] theorem State.onGate_fleet : (s.onGate f).fleet = s.fleet := rfl
@[simp] theorem State.onGate_wind : (s.onGate f).wind = s.wind := rfl
@[simp] theorem State.onGate_tables : (s.onGate f).tables = s.tables := rfl
@[simp] theorem State.onGate_planner : (s.onGate f).planner = s.planner := rfl
@[simp] theorem State.onGate_gate : (s.onGate f).gate = f s.gate := rfl
@[simp] theorem State.onGate_upkeep : (s.onGate f).upkeep = s.upkeep := rfl
@[simp] theorem State.onGate_monitor : (s.onGate f).monitor = s.monitor := rfl
@[simp] theorem State.onGate_modes : (s.onGate f).modes = s.modes := rfl
@[simp] theorem State.onGate_dispatcher : (s.onGate f).dispatcher = s.dispatcher := rfl
@[simp] theorem State.onGate_image : (s.onGate f).image = s.image := rfl
@[simp] theorem State.onGate_reports : (s.onGate f).reports = s.reports := rfl
@[simp] theorem State.onGate_notices : (s.onGate f).notices = s.notices := rfl
@[simp] theorem State.onGate_pending : (s.onGate f).pending = s.pending := rfl
end onGate

section onUpkeep
variable (f : Upkeep → Upkeep) (s : State)
@[simp] theorem State.onUpkeep_powered : (s.onUpkeep f).powered = s.powered := rfl
@[simp] theorem State.onUpkeep_clock : (s.onUpkeep f).clock = s.clock := rfl
@[simp] theorem State.onUpkeep_line : (s.onUpkeep f).line = s.line := rfl
@[simp] theorem State.onUpkeep_fleet : (s.onUpkeep f).fleet = s.fleet := rfl
@[simp] theorem State.onUpkeep_wind : (s.onUpkeep f).wind = s.wind := rfl
@[simp] theorem State.onUpkeep_tables : (s.onUpkeep f).tables = s.tables := rfl
@[simp] theorem State.onUpkeep_planner : (s.onUpkeep f).planner = s.planner := rfl
@[simp] theorem State.onUpkeep_gate : (s.onUpkeep f).gate = s.gate := rfl
@[simp] theorem State.onUpkeep_upkeep : (s.onUpkeep f).upkeep = f s.upkeep := rfl
@[simp] theorem State.onUpkeep_monitor : (s.onUpkeep f).monitor = s.monitor := rfl
@[simp] theorem State.onUpkeep_modes : (s.onUpkeep f).modes = s.modes := rfl
@[simp] theorem State.onUpkeep_dispatcher : (s.onUpkeep f).dispatcher = s.dispatcher := rfl
@[simp] theorem State.onUpkeep_image : (s.onUpkeep f).image = s.image := rfl
@[simp] theorem State.onUpkeep_reports : (s.onUpkeep f).reports = s.reports := rfl
@[simp] theorem State.onUpkeep_notices : (s.onUpkeep f).notices = s.notices := rfl
@[simp] theorem State.onUpkeep_pending : (s.onUpkeep f).pending = s.pending := rfl
end onUpkeep

section onMonitor
variable (f : Monitor → Monitor) (s : State)
@[simp] theorem State.onMonitor_powered : (s.onMonitor f).powered = s.powered := rfl
@[simp] theorem State.onMonitor_clock : (s.onMonitor f).clock = s.clock := rfl
@[simp] theorem State.onMonitor_line : (s.onMonitor f).line = s.line := rfl
@[simp] theorem State.onMonitor_fleet : (s.onMonitor f).fleet = s.fleet := rfl
@[simp] theorem State.onMonitor_wind : (s.onMonitor f).wind = s.wind := rfl
@[simp] theorem State.onMonitor_tables : (s.onMonitor f).tables = s.tables := rfl
@[simp] theorem State.onMonitor_planner : (s.onMonitor f).planner = s.planner := rfl
@[simp] theorem State.onMonitor_gate : (s.onMonitor f).gate = s.gate := rfl
@[simp] theorem State.onMonitor_upkeep : (s.onMonitor f).upkeep = s.upkeep := rfl
@[simp] theorem State.onMonitor_monitor : (s.onMonitor f).monitor = f s.monitor := rfl
@[simp] theorem State.onMonitor_modes : (s.onMonitor f).modes = s.modes := rfl
@[simp] theorem State.onMonitor_dispatcher : (s.onMonitor f).dispatcher = s.dispatcher := rfl
@[simp] theorem State.onMonitor_image : (s.onMonitor f).image = s.image := rfl
@[simp] theorem State.onMonitor_reports : (s.onMonitor f).reports = s.reports := rfl
@[simp] theorem State.onMonitor_notices : (s.onMonitor f).notices = s.notices := rfl
@[simp] theorem State.onMonitor_pending : (s.onMonitor f).pending = s.pending := rfl
end onMonitor

section onModes
variable (f : ModeController → ModeController) (s : State)
@[simp] theorem State.onModes_powered : (s.onModes f).powered = s.powered := rfl
@[simp] theorem State.onModes_clock : (s.onModes f).clock = s.clock := rfl
@[simp] theorem State.onModes_line : (s.onModes f).line = s.line := rfl
@[simp] theorem State.onModes_fleet : (s.onModes f).fleet = s.fleet := rfl
@[simp] theorem State.onModes_wind : (s.onModes f).wind = s.wind := rfl
@[simp] theorem State.onModes_tables : (s.onModes f).tables = s.tables := rfl
@[simp] theorem State.onModes_planner : (s.onModes f).planner = s.planner := rfl
@[simp] theorem State.onModes_gate : (s.onModes f).gate = s.gate := rfl
@[simp] theorem State.onModes_upkeep : (s.onModes f).upkeep = s.upkeep := rfl
@[simp] theorem State.onModes_monitor : (s.onModes f).monitor = s.monitor := rfl
@[simp] theorem State.onModes_modes : (s.onModes f).modes = f s.modes := rfl
@[simp] theorem State.onModes_dispatcher : (s.onModes f).dispatcher = s.dispatcher := rfl
@[simp] theorem State.onModes_image : (s.onModes f).image = s.image := rfl
@[simp] theorem State.onModes_reports : (s.onModes f).reports = s.reports := rfl
@[simp] theorem State.onModes_notices : (s.onModes f).notices = s.notices := rfl
@[simp] theorem State.onModes_pending : (s.onModes f).pending = s.pending := rfl
end onModes

section onDispatcher
variable (f : Dispatcher → Dispatcher) (s : State)
@[simp] theorem State.onDispatcher_powered : (s.onDispatcher f).powered = s.powered := rfl
@[simp] theorem State.onDispatcher_clock : (s.onDispatcher f).clock = s.clock := rfl
@[simp] theorem State.onDispatcher_line : (s.onDispatcher f).line = s.line := rfl
@[simp] theorem State.onDispatcher_fleet : (s.onDispatcher f).fleet = s.fleet := rfl
@[simp] theorem State.onDispatcher_wind : (s.onDispatcher f).wind = s.wind := rfl
@[simp] theorem State.onDispatcher_tables : (s.onDispatcher f).tables = s.tables := rfl
@[simp] theorem State.onDispatcher_planner : (s.onDispatcher f).planner = s.planner := rfl
@[simp] theorem State.onDispatcher_gate : (s.onDispatcher f).gate = s.gate := rfl
@[simp] theorem State.onDispatcher_upkeep : (s.onDispatcher f).upkeep = s.upkeep := rfl
@[simp] theorem State.onDispatcher_monitor : (s.onDispatcher f).monitor = s.monitor := rfl
@[simp] theorem State.onDispatcher_modes : (s.onDispatcher f).modes = s.modes := rfl
@[simp] theorem State.onDispatcher_dispatcher : (s.onDispatcher f).dispatcher = f s.dispatcher := rfl
@[simp] theorem State.onDispatcher_image : (s.onDispatcher f).image = s.image := rfl
@[simp] theorem State.onDispatcher_reports : (s.onDispatcher f).reports = s.reports := rfl
@[simp] theorem State.onDispatcher_notices : (s.onDispatcher f).notices = s.notices := rfl
@[simp] theorem State.onDispatcher_pending : (s.onDispatcher f).pending = s.pending := rfl
end onDispatcher

section onImage
variable (f : ImageLoader → ImageLoader) (s : State)
@[simp] theorem State.onImage_powered : (s.onImage f).powered = s.powered := rfl
@[simp] theorem State.onImage_clock : (s.onImage f).clock = s.clock := rfl
@[simp] theorem State.onImage_line : (s.onImage f).line = s.line := rfl
@[simp] theorem State.onImage_fleet : (s.onImage f).fleet = s.fleet := rfl
@[simp] theorem State.onImage_wind : (s.onImage f).wind = s.wind := rfl
@[simp] theorem State.onImage_tables : (s.onImage f).tables = s.tables := rfl
@[simp] theorem State.onImage_planner : (s.onImage f).planner = s.planner := rfl
@[simp] theorem State.onImage_gate : (s.onImage f).gate = s.gate := rfl
@[simp] theorem State.onImage_upkeep : (s.onImage f).upkeep = s.upkeep := rfl
@[simp] theorem State.onImage_monitor : (s.onImage f).monitor = s.monitor := rfl
@[simp] theorem State.onImage_modes : (s.onImage f).modes = s.modes := rfl
@[simp] theorem State.onImage_dispatcher : (s.onImage f).dispatcher = s.dispatcher := rfl
@[simp] theorem State.onImage_image : (s.onImage f).image = f s.image := rfl
@[simp] theorem State.onImage_reports : (s.onImage f).reports = s.reports := rfl
@[simp] theorem State.onImage_notices : (s.onImage f).notices = s.notices := rfl
@[simp] theorem State.onImage_pending : (s.onImage f).pending = s.pending := rfl
end onImage

section report
variable (c : Instr) (s : State)
@[simp] theorem State.report_powered : (s.report c).powered = s.powered := rfl
@[simp] theorem State.report_clock : (s.report c).clock = s.clock := rfl
@[simp] theorem State.report_line : (s.report c).line = s.line := rfl
@[simp] theorem State.report_fleet : (s.report c).fleet = s.fleet := rfl
@[simp] theorem State.report_wind : (s.report c).wind = s.wind := rfl
@[simp] theorem State.report_tables : (s.report c).tables = s.tables := rfl
@[simp] theorem State.report_planner : (s.report c).planner = s.planner := rfl
@[simp] theorem State.report_gate : (s.report c).gate = s.gate := rfl
@[simp] theorem State.report_upkeep : (s.report c).upkeep = s.upkeep := rfl
@[simp] theorem State.report_monitor : (s.report c).monitor = s.monitor := rfl
@[simp] theorem State.report_modes : (s.report c).modes = s.modes := rfl
@[simp] theorem State.report_dispatcher : (s.report c).dispatcher = s.dispatcher := rfl
@[simp] theorem State.report_image : (s.report c).image = s.image := rfl
@[simp] theorem State.report_reports : (s.report c).reports = s.reports ++ [c] := rfl
@[simp] theorem State.report_notices : (s.report c).notices = s.notices := rfl
@[simp] theorem State.report_pending : (s.report c).pending = s.pending := rfl
end report

section arrive
variable (c : Instr) (s : State)
@[simp] theorem State.arrive_powered : (s.arrive c).powered = s.powered := rfl
@[simp] theorem State.arrive_clock : (s.arrive c).clock = s.clock := rfl
@[simp] theorem State.arrive_line : (s.arrive c).line = s.line := rfl
@[simp] theorem State.arrive_fleet : (s.arrive c).fleet = s.fleet := rfl
@[simp] theorem State.arrive_wind : (s.arrive c).wind = s.wind := rfl
@[simp] theorem State.arrive_tables : (s.arrive c).tables = s.tables := rfl
@[simp] theorem State.arrive_planner : (s.arrive c).planner = s.planner := rfl
@[simp] theorem State.arrive_gate : (s.arrive c).gate = s.gate := rfl
@[simp] theorem State.arrive_upkeep : (s.arrive c).upkeep = s.upkeep := rfl
@[simp] theorem State.arrive_monitor : (s.arrive c).monitor = s.monitor := rfl
@[simp] theorem State.arrive_modes : (s.arrive c).modes = s.modes := rfl
@[simp] theorem State.arrive_dispatcher : (s.arrive c).dispatcher = s.dispatcher := rfl
@[simp] theorem State.arrive_image : (s.arrive c).image = s.image := rfl
@[simp] theorem State.arrive_reports : (s.arrive c).reports = s.reports.erase c := rfl
@[simp] theorem State.arrive_notices : (s.arrive c).notices = s.notices := rfl
@[simp] theorem State.arrive_pending : (s.arrive c).pending = s.pending := rfl
end arrive

section notify
variable (c : Notice) (s : State)
@[simp] theorem State.notify_powered : (s.notify c).powered = s.powered := rfl
@[simp] theorem State.notify_clock : (s.notify c).clock = s.clock := rfl
@[simp] theorem State.notify_line : (s.notify c).line = s.line := rfl
@[simp] theorem State.notify_fleet : (s.notify c).fleet = s.fleet := rfl
@[simp] theorem State.notify_wind : (s.notify c).wind = s.wind := rfl
@[simp] theorem State.notify_tables : (s.notify c).tables = s.tables := rfl
@[simp] theorem State.notify_planner : (s.notify c).planner = s.planner := rfl
@[simp] theorem State.notify_gate : (s.notify c).gate = s.gate := rfl
@[simp] theorem State.notify_upkeep : (s.notify c).upkeep = s.upkeep := rfl
@[simp] theorem State.notify_monitor : (s.notify c).monitor = s.monitor := rfl
@[simp] theorem State.notify_modes : (s.notify c).modes = s.modes := rfl
@[simp] theorem State.notify_dispatcher : (s.notify c).dispatcher = s.dispatcher := rfl
@[simp] theorem State.notify_image : (s.notify c).image = s.image := rfl
@[simp] theorem State.notify_reports : (s.notify c).reports = s.reports := rfl
@[simp] theorem State.notify_notices : (s.notify c).notices = s.notices ++ [c] := rfl
@[simp] theorem State.notify_pending : (s.notify c).pending = s.pending := rfl
end notify

section elapse
variable (n : Nat) (s : State)
@[simp] theorem State.elapse_powered : (s.elapse n).powered = s.powered := rfl
@[simp] theorem State.elapse_clock : (s.elapse n).clock = s.clock + n := rfl
@[simp] theorem State.elapse_line : (s.elapse n).line = { s.line with sPort := s.line.sPort.elapse n, fPort := s.line.fPort.elapse n } := rfl
@[simp] theorem State.elapse_fleet : (s.elapse n).fleet = s.fleet := rfl
@[simp] theorem State.elapse_wind : (s.elapse n).wind = s.wind := rfl
@[simp] theorem State.elapse_tables : (s.elapse n).tables = s.tables := rfl
@[simp] theorem State.elapse_planner : (s.elapse n).planner = s.planner := rfl
@[simp] theorem State.elapse_gate : (s.elapse n).gate = s.gate.elapse n := rfl
@[simp] theorem State.elapse_upkeep : (s.elapse n).upkeep = s.upkeep := rfl
@[simp] theorem State.elapse_monitor : (s.elapse n).monitor = s.monitor := rfl
@[simp] theorem State.elapse_modes : (s.elapse n).modes = s.modes := rfl
@[simp] theorem State.elapse_dispatcher : (s.elapse n).dispatcher = s.dispatcher := rfl
@[simp] theorem State.elapse_image : (s.elapse n).image = s.image := rfl
@[simp] theorem State.elapse_reports : (s.elapse n).reports = s.reports := rfl
@[simp] theorem State.elapse_notices : (s.elapse n).notices = s.notices := rfl
@[simp] theorem State.elapse_pending : (s.elapse n).pending = s.pending := rfl
end elapse

/-- The timebase of a state depends on its clock alone. -/
theorem State.now_eq_of_clock {s t : State} (h : s.clock = t.clock) : s.now = t.now := by
  simp [State.now, h]

/-- An event of a powered part happens. -/
@[simp] theorem State.event_powered {f : State → State} {s : State} (h : s.powered = true) :
    State.event f s = .next (f s) := by
  simp [State.event, h]

/-- An event of a part in reset does not happen. -/
@[simp] theorem State.event_reset {f : State → State} {s : State} (h : s.powered = false) :
    State.event f s = .next s := by
  simp [State.event, h]

/-- A report taken by a powered part is removed from those under way, and then acts. -/
@[simp] theorem State.reported_powered {c : Instr} {f : State → State} {s : State} (h : s.powered = true) :
    State.reported c f s = .next (f (s.arrive c)) := by
  simp [State.reported, h]

/-- A report is not taken by a part in reset. -/
@[simp] theorem State.reported_reset {c : Instr} {f : State → State} {s : State} (h : s.powered = false) :
    State.reported c f s = .next s := by
  simp [State.reported, h]

/-- A stopped timer does not expire. -/
@[simp] theorem State.expire_stopped (f : State → State) (s : State) : s.expire none f = s := rfl

/-- The expiry of a running timer: its remaining seconds pass, and then it acts. -/
@[simp] theorem State.expire_running (d : Nat) (f : State → State) (s : State) :
    s.expire (some d) f = f (s.elapse (d - s.clock)) := rfl

end Sys2Proof.Machine
end

