-- ==== Sys2Proof/Laws/Events.lean ====
section
/-! SUPPORT. The passing of seconds, the arithmetic of R2 and section 1.5, and the reports taken within their event: one
lemma for what each can do. -/

namespace Sys2Proof.Machine

/-- The passing of seconds leaves the Move Ring, the queues, the flights and the components. -/
theorem Gate.elapse_frame (n : Nat) (g : Gate) :
    (g.elapse n).ring = g.ring ∧ (g.elapse n).normalQueue = g.normalQueue ∧ (g.elapse n).urgentQueue = g.urgentQueue ∧
      (g.elapse n).flights = g.flights ∧ (g.elapse n).components = g.components ∧ (g.elapse n).hold = g.hold := by
  unfold Gate.elapse
  split <;> exact ⟨rfl, rfl, rfl, rfl, rfl, rfl⟩

/-- A direction taken into 0..3599 lies there (section 1.5). -/
theorem into3600_lt (x : Int) : into3600 x < 3600 := by
  unfold into3600
  omega

/-- The wrapped difference of two directions lies in -1799..1800 (section 1.5). -/
theorem wrapDiff_range {a b : Nat} (ha : a < 3600) (hb : b < 3600) : -1799 ≤ wrapDiff a b ∧ wrapDiff a b ≤ 1800 := by
  unfold wrapDiff
  dsimp only
  split <;> (try split) <;> omega

/-- A filter's correction has the sign of its argument and does not exceed it in magnitude when the gain is below 256. -/
theorem halfAway256_nonneg {x : Int} (h : 0 ≤ x) : 0 ≤ halfAway256 x ∧ 512 * halfAway256 x ≤ 2 * x + 256 := by
  unfold halfAway256
  dsimp only
  rw [if_neg (by omega)]
  omega

/-- A filter's correction of a negative argument is the negative of that of its magnitude. -/
theorem halfAway256_neg (x : Int) : halfAway256 (-x) = -halfAway256 x := by
  unfold halfAway256
  dsimp only
  rw [Int.natAbs_neg]
  split <;> split <;> omega

/-- Ceiling division by a positive divisor is the least multiple that covers the dividend (R2). -/
theorem ceilDiv_spec {a b : Nat} (h : 0 < b) : a ≤ ceilDiv a b * b ∧ ceilDiv a b * b < a + b := by
  unfold ceilDiv
  have h1 := Nat.div_add_mod (a + b - 1) b
  have h2 := Nat.mod_lt (a + b - 1) h
  rw [Nat.mul_comm]
  omega

/-! ### Reports taken within their event (log entry 20) -/

/-- "Planner building: yes" sets the input and overtakes a "no" still under way (R77). -/
@[simp] theorem State.reportCondition_plannerBuilding (s : State) : s.reportCondition .plannerBuilding = { s with
    tables := { s.tables with plannerBuilding := true }
    reports := s.reports.erase (.swapConditionReport (.plannerBuilding false)) } := rfl

/-- "Save in progress: yes" sets the input and overtakes a "no" still under way (R77, R188). -/
@[simp] theorem State.reportCondition_saveInProgress (s : State) : s.reportCondition .saveInProgress = { s with
    tables := { s.tables with saveInProgress := true }
    reports := s.reports.erase (.swapConditionReport (.saveInProgress false)) } := rfl

/-- A commit that goes PENDING is known to the Planner, and every report of the contrary is overtaken (R79, R100). -/
@[simp] theorem State.becomePending_eq (s : State) : s.becomePending = { s with
    tables := { s.tables with commitPending := true }
    planner := { s.planner with commitIn := true }
    reports := s.reports.filter fun c => decide (c ≠ .commitStateReport false) } := rfl

/-! ### The order of reports (section 9, log entries 43, 48 and 51) -/

/-- The reports ahead of a report are those before its first place, or all of them where no block made it. -/
theorem reportsAhead_eq {c : Instr} {reports before : List Instr} (h : standsAhead c reports before) :
    reportsAhead c reports = before := by
  obtain ⟨hb, hr⟩ := h
  have hp : ∀ x ∈ before, decide (x ≠ c) = true := fun x hx => decide_eq_true fun he => hb (he ▸ hx)
  rcases hr with rfl | ⟨after, rfl⟩
  · have := List.takeWhile_append_of_pos (l₂ := []) hp
    simpa [reportsAhead] using this
  · rw [reportsAhead, List.takeWhile_append_of_pos hp, List.takeWhile_cons_of_neg (by simp), List.append_nil]

/-- Some reports stand ahead of every report. -/
theorem standsAhead_reportsAhead (c : Instr) (reports : List Instr) :
    standsAhead c reports (reportsAhead c reports) := by
  by_cases hm : c ∈ reports
  · obtain ⟨before, after, hs, hb⟩ := List.eq_append_cons_of_mem hm
    rw [reportsAhead_eq ⟨hb, Or.inr ⟨after, hs⟩⟩]
    exact ⟨hb, Or.inr ⟨after, hs⟩⟩
  · rw [reportsAhead_eq ⟨hm, Or.inl rfl⟩]
    exact ⟨hm, Or.inl rfl⟩

/-- With the report `x` taken, the others still stand ahead of `c`, and reports made since only where no block made `c`. -/
theorem reportsAhead_erase {c x : Instr} {reports first mid : List Instr}
    (h : standsAhead c reports (first ++ x :: mid)) (hx : x ∉ first) (l : List Instr) (hl : c ∉ l) :
    reportsAhead c (reports.erase x ++ l) = first ++ mid ∨ reportsAhead c (reports.erase x ++ l) = first ++ mid ++ l := by
  obtain ⟨hb, hr⟩ := h
  have hc : c ∉ first ++ mid := by
    simp only [List.mem_append, List.mem_cons, not_or] at hb ⊢
    exact ⟨hb.1, hb.2.2⟩
  rcases hr with rfl | ⟨after, rfl⟩
  · rw [List.erase_append_right _ hx, List.erase_cons_head]
    exact Or.inr (reportsAhead_eq ⟨by simp only [List.mem_append, not_or] at hc ⊢; exact ⟨hc, hl⟩, Or.inl rfl⟩)
  · rw [List.append_assoc, List.erase_append_right _ hx, List.cons_append, List.erase_cons_head]
    exact Or.inl (reportsAhead_eq ⟨hc, Or.inr ⟨after ++ l, by simp⟩⟩)

/-- The reports of the Gate among some commands are those on the installed plan. -/
theorem mem_filterMap_planInstalledOf {b : Bool} {l : List Instr} :
    b ∈ l.filterMap planInstalledOf ↔ .swapConditionReport (.planInstalled b) ∈ l := by
  rw [List.mem_filterMap]
  constructor
  · rintro ⟨c, hc, h⟩
    unfold planInstalledOf at h
    split at h
    · cases h; exact hc
    · cases h
  · exact fun h => ⟨_, h, rfl⟩

/-- Up to its last `true` a list without one is empty. -/
theorem upToTrue_of_not_mem {l : List Bool} (h : true ∉ l) : upToTrue l = [] := by
  cases l with
  | nil => rfl
  | cons b bs => simp only [upToTrue, List.contains_iff_mem, h, if_false]

/-- A report the Table Store finds in its place is taken alone (R77). -/
theorem State.takeConditions_of_first {r : SwapInput} {s : State} {before : List Instr}
    (h : standsAhead (.swapConditionReport r) s.reports before) (hn : ¬ standsBehind r before) :
    s.takeConditions r = s.takeCondition r := by
  suffices hc : conditionsAhead r s.reports = [] by simp [State.takeConditions, hc]
  rw [conditionsAhead, reportsAhead_eq h]
  unfold standsBehind at hn
  rcases r with b | b | b
  · refine List.eq_nil_iff_forall_not_mem.mpr fun y hy => hn (Or.inl ⟨⟨b, rfl⟩, y, ?_⟩)
    exact mem_filterMap_planInstalledOf.mp hy
  · cases b
    · exact upToTrue_of_not_mem fun hy => hn (Or.inr ⟨rfl, mem_filterMap_planInstalledOf.mp hy⟩)
    · rfl
  · rfl

/-- Of several reports of the Gate ahead of a report the first is taken first, and then the rest (R77). -/
theorem State.takeConditions_of_behind {r : SwapInput} {x : Bool} {s : State} {first mid : List Instr}
    (hs : standsAhead (.swapConditionReport r) s.reports (first ++ .swapConditionReport (.planInstalled x) :: mid))
    (hf : ∀ y, .swapConditionReport (.planInstalled y) ∉ first)
    (hb : standsBehind r (first ++ .swapConditionReport (.planInstalled x) :: mid)) :
    s.takeConditions r = (s.takeCondition (.planInstalled x)).takeConditions r := by
  have hff : first.filterMap planInstalledOf = [] :=
    List.eq_nil_iff_forall_not_mem.mpr fun y hy => hf y (mem_filterMap_planInstalledOf.mp hy)
  have hahead : conditionsAhead r s.reports = x :: takenFirst r (mid.filterMap planInstalledOf) := by
    rw [conditionsAhead, reportsAhead_eq hs, List.filterMap_append, hff]
    unfold standsBehind at hb
    rcases r with b | b | b
    · rfl
    · cases b
      · have hm : true ∈ x :: mid.filterMap planInstalledOf := by
          have := mem_filterMap_planInstalledOf.mpr (hb.resolve_left (by simp)).2
          rw [List.filterMap_append, hff] at this
          simpa [planInstalledOf] using this
        simp only [List.filterMap_cons, planInstalledOf, List.nil_append, takenFirst, upToTrue, List.contains_iff_mem, hm,
          if_true]
      · simp at hb
    · simp at hb
  have hreports : ∃ l, (s.takeCondition (.planInstalled x)).reports =
      s.reports.erase (.swapConditionReport (.planInstalled x)) ++ l ∧ (l = [] ∨ l = [.commitStateReport false]) := by
    unfold State.takeCondition State.swapConditionReported
    dsimp only
    split
    · exact ⟨_, rfl, Or.inr rfl⟩
    · exact ⟨[], (List.append_nil _).symm, Or.inl rfl⟩
  obtain ⟨l, hl, hl2⟩ := hreports
  have hafter : conditionsAhead r (s.takeCondition (.planInstalled x)).reports =
      takenFirst r (mid.filterMap planInstalledOf) := by
    rw [hl, conditionsAhead]
    have hc : .swapConditionReport r ∉ l := by rcases hl2 with rfl | rfl <;> simp
    have hlf : l.filterMap planInstalledOf = [] := by rcases hl2 with rfl | rfl <;> rfl
    rcases reportsAhead_erase hs (hf x) l hc with h | h <;> rw [h] <;> simp [List.filterMap_append, hff, hlf]
  simp only [State.takeConditions, hahead, hafter, List.foldl_cons]

/-- A report that finds its place is taken alone. -/
theorem State.takeInOrder_of_first {kind : Instr → Bool} {take : Instr → State → State} {c : Instr} {s : State}
    {before : List Instr} (h : standsAhead c s.reports before) (hn : ∀ x ∈ before, kind x = false) :
    s.takeInOrder kind take c = take c (s.arrive c) := by
  have hf : before.filter kind = [] := List.filter_eq_nil_iff.mpr fun x hx => by simp [hn x hx]
  simp only [State.takeInOrder, State.takeEach, reportsAhead_eq h, hf, List.foldl_nil]

/-- A report that is in its place is taken alone. -/
theorem State.takeInOrder_of_inPlace {kind : Instr → Bool} {take : Instr → State → State} {c : Instr} {s : State}
    (h : inPlace kind c s.reports) : s.takeInOrder kind take c = take c (s.arrive c) :=
  State.takeInOrder_of_first (standsAhead_reportsAhead c s.reports) (h _ (standsAhead_reportsAhead c s.reports))

/-- Of the reports of a kind that stand ahead of one of them, nothing is lost by looking at that kind alone. -/
theorem filter_reportsAhead {kind : Instr → Bool} {c : Instr} (hc : kind c = true) (reports : List Instr) :
    (reportsAhead c reports).filter kind = reportsAhead c (reports.filter kind) := by
  induction reports with
  | nil => rfl
  | cons x xs ih =>
    simp only [reportsAhead, ne_eq, decide_not] at *
    by_cases hx : x = c
    · simp [hx, hc]
    · cases hk : kind x <;> simp [hx, hk, ih]

/-- Of several reports of a kind ahead of a report the first is taken first, and then the rest, where the taking leaves the other
reports of the kind as they stand. -/
theorem State.takeInOrder_of_behind {kind : Instr → Bool} {take : Instr → State → State} {c x : Instr} {s : State}
    {first mid : List Instr} (ht : (take x (s.arrive x)).reports.filter kind = (s.reports.erase x).filter kind)
    (hc : kind c = true) (h : standsAhead c s.reports (first ++ x :: mid)) (hx : kind x = true)
    (hf : ∀ y ∈ first, kind y = false) :
    s.takeInOrder kind take c = (take x (s.arrive x)).takeInOrder kind take c := by
  have hff : first.filter kind = [] := List.filter_eq_nil_iff.mpr fun y hy => by simp [hf y hy]
  have hxf : x ∉ first := fun hm => by simp [hf x hm] at hx
  have hafter : (reportsAhead c (take x (s.arrive x)).reports).filter kind = mid.filter kind := by
    rw [filter_reportsAhead hc, ht, ← filter_reportsAhead hc, ← List.append_nil (s.reports.erase x)]
    rcases reportsAhead_erase h hxf [] (by simp) with h1 | h1 <;> rw [h1] <;> simp [List.filter_append, hff]
  simp only [State.takeInOrder, State.takeEach, hafter, reportsAhead_eq h, List.filter_append, hff,
    List.filter_cons_of_pos hx, List.nil_append, List.foldl_cons]

/-- Reports of a kind taken one after another in the order made are the running of their commands, where each taken alone is its
command and leaves the others of the kind as they stand. -/
theorem runs_takeEach {kind : Instr → Bool} {take : Instr → State → State}
    (ht : ∀ (s : State) (c : Instr) (cs : List Instr), s.powered = true → s.reports.filter kind = c :: cs →
      exec c s = .next (take c (s.arrive c)) ∧ (take c (s.arrive c)).powered = true ∧
        (take c (s.arrive c)).reports.filter kind = (s.reports.erase c).filter kind)
    {s : State} (hp : s.powered = true) {cs : List Instr} (h : s.reports.filter kind = cs) :
    runs cs s (s.takeEach take cs) := by
  induction cs generalizing s with
  | nil => exact rfl
  | cons c cs ih =>
    obtain ⟨he, hp1, hr⟩ := ht s c cs hp h
    exact ⟨_, he, ih hp1 (by rw [hr, ← List.erase_filter, h, List.erase_cons_head])⟩

/-- The first report under way of a kind has none ahead of any kind within it. -/
theorem inPlace_of_filter_cons {wide kind : Instr → Bool} (hw : ∀ x, kind x = true → wide x = true) {c : Instr}
    {cs reports : List Instr} (h : reports.filter wide = c :: cs) : inPlace kind c reports := by
  intro before hb x hx
  obtain ⟨hcb, hr⟩ := hb
  have hsplit : ∃ after, reports = before ++ after := by
    rcases hr with rfl | ⟨after, rfl⟩
    · exact ⟨[], (List.append_nil _).symm⟩
    · exact ⟨_, rfl⟩
  obtain ⟨after, rfl⟩ := hsplit
  have hnil : before.filter wide = [] := by
    cases hf : before.filter wide with
    | nil => rfl
    | cons y ys =>
      rw [List.filter_append, hf, List.cons_append] at h
      have hy : y ∈ before := (List.mem_filter.mp (hf ▸ List.mem_cons_self)).1
      exact absurd ((List.cons.inj h).1 ▸ hy) hcb
  have hxm := List.filter_eq_nil_iff.mp hnil x hx
  cases hk : kind x
  · rfl
  · exact absurd (hw x hk) hxm

/-- The commands that take the Gate's reports to the Mode Controller take them in their order (R165, R166). -/
theorem exec_of_toModes {c : Instr} {s : State} (hp : s.powered = true) (hc : toModes c = true) :
    exec c s = .next (s.takeInOrder toModes State.takeAtModes c) := by
  cases c <;> simp [toModes] at hc <;>
    simp [exec, execUnwindFigures, execUrgentFinishReport, execUnwindEnd, State.event, State.takenAtModes, hp]

/-- Taking a report at the Mode Controller makes no report of the Gate to it (R160, R166). -/
theorem State.takeAtModes_reports (c : Instr) (s : State) :
    ∃ l, (s.takeAtModes c).reports = s.reports ++ l ∧ ∀ x ∈ l, toModes x = false := by
  cases c <;> try exact ⟨[], (List.append_nil _).symm, by simp⟩
  case unwindEnd =>
    simp only [State.takeAtModes, State.endTaken]
    split
    · exact ⟨modeReports .off, rfl, by decide⟩
    · exact ⟨[], (List.append_nil _).symm, by simp⟩

/-- The commands that take the Gate's reports to the Arrival Monitor take them in their order (section 9). -/
theorem exec_of_gateToMonitor {c : Instr} {s : State} (hp : s.powered = true) (hc : gateToMonitor c = true) :
    exec c s = .next (s.takeInOrder gateToMonitor State.takeAtMonitor c) := by
  cases c <;> simp [gateToMonitor] at hc <;>
    simp [exec, execInstallReport, execReleaseReport, execWatchArming, execCompletionReport, execAbortReport, State.event,
      State.takenAtMonitor, hp]

/-- With no completion report under way nothing is settled (R153). -/
@[simp] theorem State.settleTrims_of_none {s : State} (h : ∀ n, Instr.completionReport n ∉ s.reports) :
    s.settleTrims = s := by
  have hn : (s.reports.filter toMonitor).any isCompletion = false := by
    rw [List.any_eq_false]
    intro c hc
    cases c <;> simp [isCompletion]
    exact h _ ((List.mem_filter.mp hc).1)
  simp [State.settleTrims, hn]

/-- A report at the Monitor changes the Monitor and the notices alone (R147-R154). -/
theorem State.takeAtMonitor_frame (c : Instr) (s : State) :
    s.takeAtMonitor c = { s with monitor := (s.takeAtMonitor c).monitor, notices := (s.takeAtMonitor c).notices } := by
  cases c <;> try rfl
  case completionReport n =>
    simp only [State.takeAtMonitor, State.planCompletedAtMonitor]
    split
    · rfl
    · split
      · split
        · split <;> split <;> rfl
        · rfl
      · rfl

/-- The command of a report to the Monitor, with no other report of the Gate to it ahead, does at the Monitor what the report does
there (R153). -/
theorem State.takeAtMonitor_eq_exec {s : State} {c : Instr} (hp : s.powered = true) (hc : toMonitor c = true)
    (h : inPlace gateToMonitor c s.reports) : exec c s = .next ((s.arrive c).takeAtMonitor c) := by
  by_cases hg : gateToMonitor c = true
  · rw [exec_of_gateToMonitor hp hg, State.takeInOrder_of_inPlace h]
  · cases c <;> simp [toMonitor, gateToMonitor] at hc hg
    simp only [exec, execArrivalMonitorModeChange, State.reported, State.event, hp, if_true]
    rfl

/-- With no report of a kind under way every report is in its place. -/
theorem inPlace_of_none {kind : Instr → Bool} {reports : List Instr} (h : ∀ x ∈ reports, kind x = false) (c : Instr) :
    inPlace kind c reports := by
  rintro before ⟨_, rfl | ⟨after, rfl⟩⟩ x hx
  · exact h x hx
  · exact h x (List.mem_append_left _ hx)

/-- The oldest report to the Monitor, taken there, is its command, and leaves the other reports as they stand (R153). -/
theorem State.takeAtMonitor_step (s : State) (c : Instr) (cs : List Instr) (hp : s.powered = true)
    (h : s.reports.filter toMonitor = c :: cs) :
    exec c s = .next ((s.arrive c).takeAtMonitor c) ∧ ((s.arrive c).takeAtMonitor c).powered = true ∧
      ((s.arrive c).takeAtMonitor c).reports.filter toMonitor = (s.reports.erase c).filter toMonitor := by
  have hc : toMonitor c = true := (List.mem_filter.mp (h ▸ List.mem_cons_self)).2
  have hw : ∀ x, gateToMonitor x = true → toMonitor x = true := by
    intro x hx
    cases x <;> first | rfl | exact hx
  refine ⟨State.takeAtMonitor_eq_exec hp hc (inPlace_of_filter_cons hw h), ?_, ?_⟩ <;> rw [State.takeAtMonitor_frame]
  · exact hp
  · rfl

/-- What a build finds settled is what `trimsSettled` says (R153). -/
theorem trimsSettled_settleTrims {s : State} (hp : s.powered = true) : trimsSettled s s.settleTrims := by
  refine ⟨fun ⟨n, hn⟩ => ?_, fun h => State.settleTrims_of_none h⟩
  have ha : (s.reports.filter toMonitor).any isCompletion = true :=
    List.any_eq_true.mpr ⟨_, List.mem_filter.mpr ⟨hn, rfl⟩, rfl⟩
  simp only [State.settleTrims, ha, if_true]
  exact runs_takeEach State.takeAtMonitor_step hp rfl

/-- A build starts, where one does, for the latched pair, with the five conditions of R87 holding; otherwise nothing changes. -/
theorem State.tryBuild_cases (s : State) :
    (∃ p, s.planner.latch = some p ∧ s.planner.mayBuild = true ∧ s.tryBuild = s.startBuild p) ∨ s.tryBuild = s := by
  unfold State.tryBuild
  split
  · exact Or.inr rfl
  · rename_i p hp
    split
    · rename_i h
      exact Or.inl ⟨p, hp, h, rfl⟩
    · exact Or.inr rfl

/-- While the Gate is not ahead of the Planner and its mode input is LIVE or DRY, no entry has been taken (R168). -/
theorem State.entryTaken_of_steering {s : State} (h : s.gateAhead = []) (hm : steering s.gate.modeIn = true) :
    s.entryTaken = none := by
  simp [State.entryTaken, h, hm]

/-- Which entry has been taken is read from the reports under way and the Gate's mode input alone (R168). -/
theorem State.entryTaken_congr {s t : State} (hr : t.reports = s.reports) (hm : t.gate.modeIn = s.gate.modeIn) :
    t.entryTaken = s.entryTaken := by
  simp [State.entryTaken, State.gateAhead, hr, hm]

/-- In a ring whose oldest record has the lowest number, READ_MOVES returns the records from the first number on (R115). -/
theorem Gate.recordsFrom_of_not_wraps {g : Gate} (h : g.ringWraps = false) (first count : Nat) :
    g.recordsFrom first count = (g.ring.filter fun r => decide (first ≤ r.sequence)).take count := by
  simp [Gate.recordsFrom, h]

end Sys2Proof.Machine
end

