-- ==== Sys2Proof/Laws/Gate.lean ====
section
/-! SUPPORT. The Release Gate's small operations: what each leaves in each field it can reach. -/

namespace Sys2Proof.Machine

section onRecord
variable (q : Nat) (f : MoveRecord → MoveRecord) (g : Gate)
@[simp] theorem Gate.onRecord_ring :
    (g.onRecord q f).ring = g.ring.map fun r => if r.sequence = q then f r else r := rfl
@[simp] theorem Gate.onRecord_flights : (g.onRecord q f).flights = g.flights := rfl
@[simp] theorem Gate.onRecord_components : (g.onRecord q f).components = g.components := rfl
@[simp] theorem Gate.onRecord_installed : (g.onRecord q f).installed = g.installed := rfl
@[simp] theorem Gate.onRecord_normalQueue : (g.onRecord q f).normalQueue = g.normalQueue := rfl
@[simp] theorem Gate.onRecord_urgentQueue : (g.onRecord q f).urgentQueue = g.urgentQueue := rfl
@[simp] theorem Gate.onRecord_recordCounter : (g.onRecord q f).recordCounter = g.recordCounter := rfl
@[simp] theorem Gate.onRecord_hold : (g.onRecord q f).hold = g.hold := rfl
end onRecord

section setQueue
variable (c : MoveClass) (l : List Nat) (g : Gate)
@[simp] theorem Gate.setQueue_ring : (g.setQueue c l).ring = g.ring := by cases c <;> rfl
@[simp] theorem Gate.setQueue_flights : (g.setQueue c l).flights = g.flights := by cases c <;> rfl
@[simp] theorem Gate.setQueue_components : (g.setQueue c l).components = g.components := by cases c <;> rfl
@[simp] theorem Gate.setQueue_installed : (g.setQueue c l).installed = g.installed := by cases c <;> rfl
@[simp] theorem Gate.setQueue_recordCounter : (g.setQueue c l).recordCounter = g.recordCounter := by cases c <;> rfl
@[simp] theorem Gate.setQueue_queue : (g.setQueue c l).queue c = l := by cases c <;> rfl
end setQueue

section makeReady
variable (q : Nat) (c : MoveClass) (g : Gate)
@[simp] theorem Gate.makeReady_ring : (g.makeReady q c).ring =
    g.ring.map fun r => if r.sequence = q then { r with state := .ready, grantTime := none } else r := by cases c <;> rfl
@[simp] theorem Gate.makeReady_flights : (g.makeReady q c).flights = g.flights := by cases c <;> rfl
@[simp] theorem Gate.makeReady_components : (g.makeReady q c).components = g.components := by cases c <;> rfl
@[simp] theorem Gate.makeReady_installed : (g.makeReady q c).installed = g.installed := by cases c <;> rfl
@[simp] theorem Gate.makeReady_scanDue : (g.makeReady q c).scanDue = true := rfl
@[simp] theorem Gate.makeReady_queue : (g.makeReady q c).queue c = g.queue c ++ [q] := by cases c <;> rfl
end makeReady

section finishAll
variable (p : MoveRecord → Bool) (st : RecordState) (cause : Option FinishCause) (second : Nat) (g : Gate)
@[simp] theorem Gate.finishAll_ring : (g.finishAll p st cause second).ring =
    g.ring.map fun r => if p r && !r.state.finished then r.finish st cause second else r := rfl
@[simp] theorem Gate.finishAll_flights : (g.finishAll p st cause second).flights = g.flights := rfl
@[simp] theorem Gate.finishAll_components : (g.finishAll p st cause second).components = g.components := rfl
@[simp] theorem Gate.finishAll_installed : (g.finishAll p st cause second).installed = g.installed := rfl
@[simp] theorem Gate.finishAll_recordCounter : (g.finishAll p st cause second).recordCounter = g.recordCounter := rfl
end finishAll

/-- A record that finishes keeps its number, plan, class, turbine and extremes (R113). -/
theorem MoveRecord.finish_frame (st : RecordState) (cause : Option FinishCause) (second : Nat) (r : MoveRecord) :
    (r.finish st cause second).sequence = r.sequence ∧ (r.finish st cause second).plan = r.plan ∧
      (r.finish st cause second).cls = r.cls ∧ (r.finish st cause second).turbine = r.turbine ∧
      (r.finish st cause second).source = r.source ∧ (r.finish st cause second).target = r.target :=
  ⟨rfl, rfl, rfl, rfl, rfl, rfl⟩

/-- A change of one record keeps the order of numbers when it keeps the record's own (R114). -/
theorem Gate.onRecord_sequences (q : Nat) (f : MoveRecord → MoveRecord) (hf : ∀ r, (f r).sequence = r.sequence) (g : Gate) :
    (g.onRecord q f).ring.map (·.sequence) = g.ring.map (·.sequence) := by
  simp only [Gate.onRecord_ring, List.map_map]
  refine List.map_congr_left fun r _ => ?_
  simp only [Function.comp]
  split <;> simp [hf]

/-- A record added to the ring is its last, and the ring does not outgrow its capacity (R114). -/
theorem pushRecord_spec (r : MoveRecord) (ring : List MoveRecord) (h : ring.length ≤ 1024) :
    (pushRecord r ring).length ≤ 1024 ∧ (pushRecord r ring).getLast? = some r := by
  unfold pushRecord Config.ringCapacity
  split
  · simp only [List.length_append, List.length_singleton, List.getLast?_append, List.getLast?_singleton]
    exact ⟨by omega, rfl⟩
  · simp only [List.length_append, List.length_drop, List.length_singleton, List.getLast?_append, List.getLast?_singleton]
    exact ⟨by omega, rfl⟩

/-- The numbering of records runs through 1..4294967295 (R113). -/
theorem nextSequence_range {n : Nat} (h : n ≤ 4294967295) : 1 ≤ nextSequence n ∧ nextSequence n ≤ 4294967295 := by
  unfold nextSequence
  split <;> omega

/-- The skip cause of a turbine is none exactly when it is ONLINE and neither LOCKED nor in yaw FAULT (R118). -/
theorem skipCause_none_iff (d : TurbineDynamic) :
    skipCause d = none ↔ d.availability = .online ∧ d.yaw ≠ some .locked ∧ d.yaw ≠ some .fault := by
  unfold skipCause
  cases d.availability <;> simp
  cases d.yaw with
  | none => simp
  | some y => cases y <;> simp

end Sys2Proof.Machine
end

