-- ==== Sys2Proof/Laws/Image.lean ====
section
/-! SUPPORT. The configuration memory: what a save leaves in it, and how start-up judges each (R185-R188). -/

namespace Sys2Proof.Machine

/-- The CRC that does not match is not the one given. -/
theorem mismatched_ne (crc torn : BitVec 32) : mismatched crc torn ≠ crc := by
  unfold mismatched
  split
  · rename_i h
    intro h1
    have := congrArg BitVec.toNat (h1.trans h.symm)
    rw [BitVec.toNat_not] at this
    omega
  · assumption

/-- A save that ended well leaves the mark, the format number, its content and the CRC-32 over them (R185, R188). -/
theorem writtenBlock_eq (i : Image) : writtenBlock i = ⟨Config.imageMark, Config.imageFormat, i,
    crc32 (Config.imageMark ++ Config.imageFormat ++ Config.contentBytes { i with bank := .zeroed } ++
      Config.bankBytes i.bank)⟩ := rfl

/-- The CRC of an image that was written matches (R185). -/
@[simp] theorem writtenBlock_crcOk (i : Image) : (writtenBlock i).crcOk = true := beq_self_eq_true _

/-- The CRC of an image whose save was cut off or failed does not match (R187, R188). -/
@[simp] theorem tornBlock_crcOk (old : Option ImageBlock) (i : Image) : (tornBlock old i).crcOk = false :=
  beq_false_of_ne (mismatched_ne _ _)

/-- An image that was written is judged by its content alone (R186). -/
@[simp] theorem writtenBlock_judge (i : Image) :
    (writtenBlock i).judge = if i.contentOk then .valid else .corrupt := by
  have h := writtenBlock_crcOk i
  simp only [ImageBlock.judge, h]
  cases hc : i.contentOk <;> simp [writtenBlock, hc]

/-- An image whose save was cut off or failed is CORRUPT (R186, R187). -/
@[simp] theorem tornBlock_judge (old : Option ImageBlock) (i : Image) : (tornBlock old i).judge = .corrupt := by
  have h := tornBlock_crcOk old i
  simp only [ImageBlock.judge, h]
  simp [tornBlock]

/-- Start-up loads a written image whose content passes the check (R186). -/
theorem judgeMemory_written {i : Image} (h : i.contentOk = true) :
    judgeMemory true (some (writtenBlock i)) = (.valid, some i) := by
  simp only [judgeMemory, writtenBlock_judge, h, if_true]
  rfl

/-- An image is VALID exactly when every case of R186 passes it. -/
theorem ImageBlock.judge_valid {b : ImageBlock} : b.judge = .valid ↔
    b.mark = Config.imageMark ∧ b.format = Config.imageFormat ∧ b.crc = crc32 b.bytes ∧ b.content.contentOk = true := by
  simp only [ImageBlock.judge, ImageBlock.crcOk]
  by_cases hm : b.mark = Config.imageMark <;> by_cases hf : b.format = Config.imageFormat <;>
    by_cases hc : b.crc = crc32 b.bytes <;> cases hk : b.content.contentOk <;> simp [hm, hf, hc]

/-- Start-up from an image judged VALID loads its content (R186, R187). -/
theorem State.startUp_valid {s : State} {answers : Bool} {i : Image}
    (h : judgeMemory answers s.image.memory = (.valid, some i)) (storm gridhold : Level) :
    s.startUp answers storm gridhold = ((({ State.reset with
      image := { ImageLoader.factory with state := .valid, savedValid := some i.valid, memory := s.image.memory }
      pending := s.pending } : State).loadImage i).loadBank i).sampleLines storm gridhold := by
  simp only [State.startUp, h]
  rfl

/-- Start-up from any other memory loads nothing (R186, R187). -/
theorem State.startUp_factory {s : State} {answers : Bool} {st : ImageState}
    (h : judgeMemory answers s.image.memory = (st, none)) (storm gridhold : Level) :
    s.startUp answers storm gridhold = ({ State.reset with
      image := { ImageLoader.factory with state := st, memory := s.image.memory }
      pending := s.pending } : State).sampleLines storm gridhold := by
  simp only [State.startUp, h]
  rfl

end Sys2Proof.Machine
end

