-- ==== Sys2Proof/Laws/Modes.lean ====
section
/-! SUPPORT. The reports of changes of mode to the Estimator and the Planner: what taking one can do, their order, and what a
geometry request finds of them (log entries 43 and 52). -/

namespace Sys2Proof.Machine

/-- The reports of changes of mode to the Estimator and the Planner are the same, and the part is powered alike. -/
def keepsModeReports (s t : State) : Prop :=
  t.powered = s.powered ∧ t.reports.filter modeToEither = s.reports.filter modeToEither

theorem keepsModeReports.rfl {s : State} : keepsModeReports s s := ⟨Eq.refl _, Eq.refl _⟩

theorem keepsModeReports.trans {s t u : State} (h1 : keepsModeReports s t) (h2 : keepsModeReports t u) :
    keepsModeReports s u := ⟨h2.1.trans h1.1, h2.2.trans h1.2⟩

/-- The reports to one of the two are then the same. -/
theorem keepsModeReports.filter_eq {s t : State} (h : keepsModeReports s t) {kind : Instr → Bool}
    (hk : ∀ c, kind c = true → modeToEither c = true) : t.reports.filter kind = s.reports.filter kind := by
  have hf : ∀ l : List Instr, (l.filter modeToEither).filter kind = l.filter kind := fun l => by
    rw [List.filter_filter]
    congr 1
    funext c
    cases hc : kind c <;> simp [hc, hk c]
  rw [← hf, h.2, hf]

/-- A report of another kind that is taken or made leaves them. -/
theorem keepsModeReports_arrive {c : Instr} (h : modeToEither c = false) (s : State) : keepsModeReports s (s.arrive c) := by
  refine ⟨rfl, ?_⟩
  rw [State.arrive, ← List.erase_filter]
  exact List.erase_of_not_mem fun hm => by simp [h] at hm

theorem keepsModeReports_report {c : Instr} (h : modeToEither c = false) (s : State) : keepsModeReports s (s.report c) := by
  refine ⟨rfl, ?_⟩
  simp [State.report, List.filter_append, h]

/-- The reports to the Monitor taken one after another leave them. -/
theorem keepsModeReports_takeEach (cs : List Instr) (h : ∀ c ∈ cs, toMonitor c = true) (s : State) :
    keepsModeReports s (s.takeEach State.takeAtMonitor cs) := by
  induction cs generalizing s with
  | nil => exact .rfl
  | cons c cs ih =>
    have hc : modeToEither c = false := by
      have := h c List.mem_cons_self
      cases c <;> first | rfl | exact absurd this (by simp [toMonitor, gateToMonitor])
    have h1 : keepsModeReports (s.arrive c) ((s.arrive c).takeAtMonitor c) := by
      rw [State.takeAtMonitor_frame]
      exact .rfl
    exact ((keepsModeReports_arrive hc s).trans h1).trans (ih (fun x hx => h x (List.mem_cons_of_mem _ hx)) _)

/-- The settling of the trims leaves them. -/
theorem keepsModeReports_settleTrims (s : State) : keepsModeReports s s.settleTrims := by
  unfold State.settleTrims
  dsimp only
  split
  · exact keepsModeReports_takeEach _ (fun c hc => (List.mem_filter.mp hc).2) s
  · exact .rfl

/-- The start of a build leaves them. -/
theorem keepsModeReports_tryBuild (s : State) : keepsModeReports s s.tryBuild := by
  rcases State.tryBuild_cases s with ⟨p, -, -, h⟩ | h <;> rw [h]
  · have ha := keepsModeReports_arrive (c := .swapConditionReport (.plannerBuilding false)) rfl s.settleTrims
    exact (keepsModeReports_settleTrims s).trans ⟨ha.1, ha.2⟩
  · exact .rfl

/-- The S-egress arbiter makes no report. -/
theorem State.arbitrateS_reports (s : State) : s.arbitrateS.reports = s.reports := by
  have hm : ∀ (ns : List PendingNotice) (s : State), (s.moveFirstNotice ns).reports = s.reports := by
    intro ns
    induction ns with
    | nil => exact fun _ => rfl
    | cons n rest ih =>
      intro s
      simp only [State.moveFirstNotice]
      split
      · exact ih s
      · rfl
  have hr : ∀ e rest (s : State), (s.sendReply e rest).reports = s.reports := by
    intro e rest s
    simp only [State.sendReply, State.signalReady, State.placeHeld]
    repeat' split
    all_goals first | rfl | exact hm _ _
  have hf : ∀ f fs (s : State), (s.sendForward .fPort f fs).reports = s.reports := by
    intro f fs s
    simp only [State.sendForward, State.forwardDeparted]
    split <;> rfl
  simp only [State.arbitrateS]
  repeat' split
  all_goals first | rfl | exact hr _ _ _ | exact hf _ _ _

/-- An answer makes no report. -/
theorem State.answer_reports (h : ReqHead) (u : Nat) (st : Status) (r : List Byte) (s : State) :
    (s.answer h u st r).reports = s.reports := by
  simp only [State.answer, State.placeReply]
  split
  · exact State.arbitrateS_reports _
  · rfl

/-- An answer leaves them. -/
theorem keepsModeReports_answer (h : ReqHead) (u : Nat) (st : Status) (r : List Byte) (s : State) :
    keepsModeReports s (s.answer h u st r) := by
  have ho : onlyEgress s (s.answer h u st r) := onlyEgress_placeReply _ _
  refine ⟨?_, by rw [State.answer_reports]⟩
  unfold onlyEgress at ho
  rw [ho]

/-- A late answer leaves them. -/
theorem keepsModeReports_lateAnswer (u : Nat) (st : Status) (r : List Byte) (s : State) :
    keepsModeReports s (s.lateAnswer u st r) := by
  unfold State.lateAnswer
  repeat' split
  all_goals first | exact .rfl | exact keepsModeReports_answer _ _ _ _ _

/-- The Planner's taking of a mode leaves the reports of other changes of mode as they stand. -/
theorem keepsModeReports_plannerMode (m : Mode) (s : State) : keepsModeReports s (s.plannerMode m) := by
  have he : ∀ s : State, keepsModeReports s s.endBuild := fun s =>
    keepsModeReports_report (c := .swapConditionReport (.plannerBuilding false)) rfl _
  unfold State.plannerMode
  dsimp only
  repeat' split
  all_goals first
    | exact .rfl
    | exact keepsModeReports_tryBuild (s.onPlanner fun q => { q with modeIn := m })
    | exact he _
    | exact ⟨((keepsModeReports_lateAnswer _ _ _ _).trans (he _)).1, ((keepsModeReports_lateAnswer _ _ _ _).trans (he _)).2⟩

/-- The Estimator's taking of a mode does so too. -/
theorem keepsModeReports_estimatorMode (m : Mode) (s : State) : keepsModeReports s (s.estimatorMode m) := by
  unfold State.estimatorMode
  dsimp only
  repeat' split
  all_goals first
    | exact .rfl
    | exact keepsModeReports_report (c := .retargetTrigger _) rfl _

/-- The taking of a command at the Estimator and at the Planner leaves them. -/
theorem keepsModeReports_takeAtEstimator (c : Instr) (s : State) : keepsModeReports s (s.takeAtEstimator c) := by
  unfold State.takeAtEstimator
  split
  · exact keepsModeReports_estimatorMode _ s
  · exact .rfl

theorem keepsModeReports_takeAtPlanner (c : Instr) (s : State) : keepsModeReports s (s.takeAtPlanner c) := by
  unfold State.takeAtPlanner
  split
  · exact keepsModeReports_plannerMode _ s
  · exact .rfl

/-- The commands that take the Estimator's reports of a mode take them in their order (R160). -/
theorem exec_of_modeToEstimator {c : Instr} {s : State} (hp : s.powered = true) (hc : modeToEstimator c = true) :
    exec c s = .next (s.takeInOrder modeToEstimator State.takeAtEstimator c) := by
  cases c <;> simp [modeToEstimator, estimatorReportOf] at hc
  simp [exec, execEstimatorModeChange, State.event, hp]

/-- The commands that take the Planner's reports of a mode take them in their order (R160). -/
theorem exec_of_modeToPlanner {c : Instr} {s : State} (hp : s.powered = true) (hc : modeToPlanner c = true) :
    exec c s = .next (s.takeInOrder modeToPlanner State.takeAtPlanner c) := by
  cases c <;> simp [modeToPlanner, plannerReportOf] at hc
  simp [exec, execPlannerModeChange, State.event, hp]

/-- The oldest report of a mode to the two, taken there, is its command, and leaves the others as they stand (R160). -/
theorem State.takeModes_step (s : State) (c : Instr) (cs : List Instr) (hp : s.powered = true)
    (h : s.reports.filter modeToEither = c :: cs) :
    exec c s = .next (((s.arrive c).takeAtEstimator c).takeAtPlanner c) ∧
      (((s.arrive c).takeAtEstimator c).takeAtPlanner c).powered = true ∧
      (((s.arrive c).takeAtEstimator c).takeAtPlanner c).reports.filter modeToEither =
        (s.reports.erase c).filter modeToEither := by
  have hc : modeToEither c = true := (List.mem_filter.mp (h ▸ List.mem_cons_self)).2
  have hk := (keepsModeReports_takeAtEstimator c (s.arrive c)).trans (keepsModeReports_takeAtPlanner c _)
  refine ⟨?_, hk.1.trans hp, hk.2⟩
  by_cases he : modeToEstimator c = true
  · rw [exec_of_modeToEstimator hp he, State.takeInOrder_of_inPlace
      (inPlace_of_filter_cons (wide := modeToEither) (fun x hx => by simp [modeToEither, hx]) h)]
    have hn : plannerReportOf c = none := by
      cases c <;> first | rfl | simp [modeToEstimator, estimatorReportOf] at he
    have : ∀ u : State, u.takeAtPlanner c = u := fun u => by simp [State.takeAtPlanner, hn]
    rw [this]
  · have hpl : modeToPlanner c = true := by simpa [modeToEither, he] using hc
    rw [exec_of_modeToPlanner hp hpl, State.takeInOrder_of_inPlace
      (inPlace_of_filter_cons (wide := modeToEither) (fun x hx => by simp [modeToEither, hx]) h)]
    have hn : estimatorReportOf c = none := by simpa [modeToEstimator] using he
    have : ∀ u : State, u.takeAtEstimator c = u := fun u => by simp [State.takeAtEstimator, hn]
    rw [this]

/-- What a geometry request finds of the two is what `modesSettled` says (R160). -/
theorem modesSettled_settleModes {s : State} (hp : s.powered = true) : modesSettled s s.settleModes :=
  runs_takeEach State.takeModes_step hp rfl

/-- With no report of a mode under way to the two, nothing is settled. -/
@[simp] theorem State.settleModes_of_none {s : State} (h : s.reports.filter modeToEither = []) : s.settleModes = s := by
  simp [State.settleModes, State.takeEach, h]

end Sys2Proof.Machine
end

