-- ==== Sys2Proof/Laws/Table.lean ====
section
/-! SUPPORT. The sparse table: what a read gives after a write, and that a write keeps the canonical form. -/

namespace Sys2Proof.Machine

variable {α : Type}

/-- A write replaces what its own index has. -/
theorem find_insertCell_same (k : Nat) (v : α) (cs : List (Nat × α)) (h : ∀ c ∈ cs, c.1 ≠ k) :
    (insertCell k v cs).find? (fun c => c.1 == k) = some (k, v) := by
  induction cs with
  | nil => simp [insertCell]
  | cons c cs ih =>
    have hc : c.1 ≠ k := h c (by simp)
    unfold insertCell
    split
    · simp
    · simp [hc, ih (fun x hx => h x (by simp [hx]))]

/-- A write leaves what every other index has. -/
theorem find_insertCell_other {k j : Nat} (hne : j ≠ k) (v : α) (cs : List (Nat × α)) :
    (insertCell k v cs).find? (fun c => c.1 == j) = cs.find? (fun c => c.1 == j) := by
  induction cs with
  | nil => simp [insertCell, Ne.symm hne]
  | cons c cs ih =>
    unfold insertCell
    split
    · simp [Ne.symm hne]
    · simp only [List.find?_cons]; split <;> simp_all

/-- Dropping the entries of one index leaves what every other index has. -/
theorem find_filter_other {k j : Nat} (hne : j ≠ k) (cs : List (Nat × α)) :
    (cs.filter (fun c => c.1 != k)).find? (fun c => c.1 == j) = cs.find? (fun c => c.1 == j) := by
  induction cs with
  | nil => rfl
  | cons c cs ih =>
    by_cases hc : c.1 = k
    · have : c.1 ≠ j := fun h => hne (h.symm.trans hc)
      simp [hc, ih, Ne.symm hne]
    · simp only [bne_iff_ne, ne_eq, hc, not_false_eq_true, List.filter_cons_of_pos, List.find?_cons, ih]

/-- Reading the index that was written gives the value written. -/
@[simp] theorem Table.get_set_same [DecidableEq α] (d : α) (t : Table α) (k : Nat) (v : α) :
    (t.set d k v).get d k = v := by
  have hno : ∀ c ∈ t.cells.filter (fun c => c.1 != k), c.1 ≠ k := by
    intro c hc; simpa using (List.mem_filter.mp hc).2
  unfold Table.set Table.get
  by_cases hv : v = d
  · have hn : (t.cells.filter (fun c => c.1 != k)).find? (fun c => c.1 == k) = none := by
      rw [List.find?_eq_none]; intro c hc; simpa using hno c hc
    simp only [hv, if_true, hn]
  · simp only [hv, if_false, find_insertCell_same k v _ hno]

/-- Reading another index gives what it had before. -/
@[simp] theorem Table.get_set_other [DecidableEq α] (d : α) (t : Table α) {k j : Nat} (hne : j ≠ k) (v : α) :
    (t.set d k v).get d j = t.get d j := by
  unfold Table.set Table.get
  by_cases hv : v = d
  · simp only [hv, if_true, find_filter_other hne]
  · simp only [hv, if_false, find_insertCell_other hne, find_filter_other hne]

/-- The empty table has the default at every index. -/
@[simp] theorem Table.get_empty (d : α) (k : Nat) : (⟨[]⟩ : Table α).get d k = d := rfl

/-- Rising indices, with every index above a bound. -/
theorem risingFrom_cons {a : Nat × α} {cs : List (Nat × α)} :
    risingFrom (a :: cs) = true ↔ (∀ c ∈ cs, a.1 < c.1) ∧ risingFrom cs = true := by
  induction cs generalizing a with
  | nil => simp [risingFrom]
  | cons b cs ih =>
    simp only [risingFrom, Bool.and_eq_true, decide_eq_true_eq, ih, List.mem_cons, forall_eq_or_imp]
    constructor
    · rintro ⟨hab, hb, hr⟩
      exact ⟨⟨hab, fun c hc => Nat.lt_trans hab (hb c hc)⟩, hb, hr⟩
    · rintro ⟨⟨hab, -⟩, hb, hr⟩
      exact ⟨hab, hb, hr⟩

/-- A sublist chosen by a test still rises. -/
theorem risingFrom_filter (p : Nat × α → Bool) (cs : List (Nat × α)) (h : risingFrom cs = true) :
    risingFrom (cs.filter p) = true := by
  induction cs with
  | nil => rfl
  | cons c cs ih =>
    obtain ⟨hc, hr⟩ := risingFrom_cons.mp h
    by_cases hp : p c = true
    · rw [List.filter_cons_of_pos hp, risingFrom_cons]
      exact ⟨fun x hx => hc x (List.mem_filter.mp hx).1, ih hr⟩
    · rw [List.filter_cons_of_neg hp]; exact ih hr

/-- The cells after an insertion. -/
theorem mem_insertCell {k : Nat} {v : α} {cs : List (Nat × α)} {x : Nat × α} :
    x ∈ insertCell k v cs ↔ x = (k, v) ∨ x ∈ cs := by
  induction cs with
  | nil => simp [insertCell]
  | cons c cs ih =>
    unfold insertCell
    split
    · simp
    · simp only [List.mem_cons, ih]; exact or_left_comm

/-- An insertion at an index that no cell has keeps the indices rising. -/
theorem risingFrom_insertCell (k : Nat) (v : α) (cs : List (Nat × α)) (h : risingFrom cs = true)
    (hno : ∀ c ∈ cs, c.1 ≠ k) : risingFrom (insertCell k v cs) = true := by
  induction cs with
  | nil => rfl
  | cons c cs ih =>
    obtain ⟨hc, hr⟩ := risingFrom_cons.mp h
    unfold insertCell
    split
    · rename_i hk
      rw [risingFrom_cons]
      exact ⟨fun x hx => by
        rcases List.mem_cons.mp hx with rfl | hx
        · exact hk
        · exact Nat.lt_trans hk (hc x hx), h⟩
    · rename_i hk
      rw [risingFrom_cons]
      refine ⟨fun x hx => ?_, ih hr (fun x hx => hno x (by simp [hx]))⟩
      rcases mem_insertCell.mp hx with rfl | hx
      · exact Nat.lt_of_le_of_ne (Nat.not_lt.mp hk) (hno c (by simp))
      · exact hc x hx

/-- A write keeps the canonical form. -/
theorem Table.wf_set [DecidableEq α] (d : α) (t : Table α) (k : Nat) (v : α) (h : t.wf d = true) :
    (t.set d k v).wf d = true := by
  unfold Table.wf at h ⊢
  rw [Bool.and_eq_true] at h
  obtain ⟨hr, hd⟩ := h
  have hr' := risingFrom_filter (fun c => c.1 != k) _ hr
  have hno : ∀ c ∈ t.cells.filter (fun c => c.1 != k), c.1 ≠ k := by
    intro c hc; simpa using (List.mem_filter.mp hc).2
  have hall : ∀ c ∈ t.cells.filter (fun c => c.1 != k), c.2 ≠ d := by
    intro c hc; simpa using List.all_eq_true.mp hd c (List.mem_filter.mp hc).1
  unfold Table.set
  by_cases hv : v = d
  · simp only [hv, if_true, Bool.and_eq_true, hr', true_and]
    rw [List.all_eq_true]; intro c hc; simpa using hall c hc
  · simp only [hv, if_false, Bool.and_eq_true]
    refine ⟨risingFrom_insertCell k v _ hr' hno, ?_⟩
    rw [List.all_eq_true]; intro c hc
    rcases mem_insertCell.mp hc with rfl | hc
    · simpa using hv
    · simpa using hall c hc

/-- The empty table is in canonical form. -/
@[simp] theorem Table.wf_empty [DecidableEq α] (d : α) : (⟨[]⟩ : Table α).wf d = true := rfl

/-- Every value of a table satisfies what the default and every listed cell satisfy. -/
theorem Table.get_of_all {p : α → Prop} (d : α) (t : Table α) (hd : p d) (h : ∀ c ∈ t.cells, p c.2) (k : Nat) :
    p (t.get d k) := by
  unfold Table.get
  split
  · rename_i c hc; exact h c (List.mem_of_find?_eq_some hc)
  · exact hd

end Sys2Proof.Machine
end

