-- ==== Sys2Proof/WellFormed.lean ====
section
/-! DEFINITION. Well-formed commands: every operand is one that the event can carry, or that the request's argument bytes can
spell (Table 3-7). The machine itself takes any operand; a value the manual refuses is answered BAD_ARG. -/

namespace Sys2Proof

/-- A turbine index (section 2). -/
def turbineFits (t : Nat) : Bool := decide (t < Config.turbines)
/-- A row index. -/
def rowFits (r : Nat) : Bool := decide (r < Config.rows)
/-- A part timebase second (R4), or a sequence number. -/
def u32Fits (n : Nat) : Bool := decide (n < 4294967296)
/-- A two-byte field. -/
def u16Fits (n : Nat) : Bool := decide (n < 65536)
/-- A signed two-byte field. -/
def i16Fits (x : Int) : Bool := decide (-32768 ≤ x) && decide (x ≤ 32767)
/-- A plan number of an installed plan (R93). -/
def planFits (n : Nat) : Bool := decide (1 ≤ n) && u16Fits n
/-- A pair that the Estimator can trigger. -/
def pairFits (p : Pair) : Bool := decide (p.sector < Config.sectorSlots) && decide (p.band < 8)
/-- A wave index (Table 7-2). -/
def waveFits (k : Nat) : Bool := decide (k < 16)
/-- A list of two-byte fields, of a length its count can hold. -/
def listFits (xs : List Nat) : Bool := u16Fits xs.length && xs.all u16Fits
/-- Arguments that cannot be decoded, or that fit. -/
def argsFit {α : Type} (f : α → Bool) : Option α → Bool
  | none => true
  | some x => f x
/-- An operand that may be absent. -/
def optionFits {α : Type} (f : α → Bool) : Option α → Bool
  | none => true
  | some x => f x

/-- A reference arrival as the Fleet Table hands it on (R41). -/
def referenceFits (r : ReferenceArrival) : Bool :=
  turbineFits r.turbine && u32Fits r.time && optionFits (fun d => decide (d < 3600)) r.direction &&
    optionFits (fun v => decide (v ≤ 600)) r.speed && decide (-300 ≤ r.offset) && decide (r.offset ≤ 300) &&
    decide (2048 ≤ r.gain) && decide (r.gain ≤ 4096)

/-- An install report (R97). -/
def installFits (i : InstallInfo) : Bool :=
  planFits i.plan && pairFits i.pair && decide (32 ≤ i.trim) && decide (i.trim ≤ 128) && decide (i.waves.length ≤ 16) &&
    i.waves.all (fun w => rowFits w.row && optionFits u16Fits w.delay) && optionFits planFits i.superseded

/-- A notice (Table 11-2): the indices and numbers of its data fit their fields. -/
def noticeFits : Notice → Bool
  | .installed p q w n k o => planFits p && pairFits q && waveFits (w - 1) && u16Fits n && u16Fits k && u16Fits o
  | .held p _ _ _ => planFits p
  | .resumed p _ _ => planFits p
  | .failure p n => planFits p && u16Fits n
  | .aborted p _ n => planFits p && u16Fits n
  | .complete p q _ n a b c => planFits p && pairFits q && u16Fits n && u16Fits a && u16Fits b && u16Fits c
  | .moveSkipped q t _ => u32Fits q && turbineFits t
  | .moveFailed q t _ g => u32Fits q && turbineFits t && i16Fits g
  | .modeChanged _ _ _ second _ => u32Fits second
  | .bankSwapped _ _ second => u32Fits second
  | .trimStepped x b a _ p => decide (x < Config.sectorSlots) && u16Fits b && u16Fits a && planFits p

/-- The arguments of SET_ROW. -/
def setRowFits (a : SetRowArgs) : Bool := u16Fits a.row && listFits a.members && optionFits u16Fits a.arrivalRef
/-- The arguments of SET_CORRECTION. -/
def setCorrectionFits (a : SetCorrectionArgs) : Bool := u16Fits a.turbine && i16Fits a.offset && u16Fits a.gain
/-- The arguments of SET_WIND_PARAMS. -/
def setWindParamsFits (a : SetWindParamsArgs) : Bool :=
  [a.alpha, a.beta, a.outlierLimit, a.wRef, a.wStale, a.dwell, a.hysteresis].all u16Fits
/-- The arguments of SET_BANDS: seven thresholds and hs. -/
def setBandsFits (a : SetBandsArgs) : Bool := a.thresholds.length == 7 && listFits a.thresholds && u16Fits a.hs
/-- The arguments of WRITE_OFFSETS. -/
def writeOffsetsFits (a : WriteOffsetsArgs) : Bool :=
  [a.sector, a.band, a.page, a.start, a.count, a.values.length].all u16Fits && a.values.all i16Fits
/-- The arguments of WRITE_SECTOR. -/
def writeSectorFits (a : WriteSectorArgs) : Bool := u16Fits a.sector && listFits a.order && listFits a.spacings
/-- The arguments of READ_OFFSETS. -/
def readOffsetsFits (a : ReadOffsetsArgs) : Bool := [a.sector, a.band, a.page, a.start, a.count].all u16Fits
/-- The arguments of SET_PLAN_PARAMS. -/
def planParamsFit (a : PlanParams) : Bool :=
  [a.biasLimit, a.maxStep, a.deadband, a.gapMin, a.gapMax, a.floor, a.yawRate, a.settleTol, a.settleMargin,
    a.failureLimit, a.refresh].all u16Fits
/-- The arguments of SET_BUDGETS: eight budgets and U. -/
def setBudgetsFits (a : SetBudgetsArgs) : Bool := a.bands.length == 8 && listFits a.bands && u16Fits a.urgent
/-- The arguments of SET_ARRIVAL. -/
def setArrivalFits (a : SetArrivalArgs) : Bool := u16Fits a.theta && u16Fits a.tau
/-- The arguments of SET_LINK. -/
def setLinkFits (a : SetLinkArgs) : Bool := u16Fits a.node && u16Fits a.typeValue
/-- The arguments of SET_NOTICES: four destinations and E. -/
def setNoticesFits (a : SetNoticesArgs) : Bool :=
  a.destinations.length == 4 && listFits a.destinations && u16Fits a.fold
/-- A request as the inbox holds it: its arguments are the body bytes after the fifth (Table 3-6). -/
def requestFits (r : Request) : Bool := u16Fits r.argLength && u16Fits r.bodyLength && r.args.length == r.bodyLength - 5
/-- Two two-byte fields. -/
def twoFit (x : Nat × Nat) : Bool := u16Fits x.1 && u16Fits x.2

/-- A command is well formed. -/
def wellFormed : Instr → Bool
  | .frameReception _ _ => true
  | .pauseExpiry _ => true
  | .transmissionEnd _ => true
  | .roomEvent => true
  | .staleExpiry t => turbineFits t
  | .referenceSample r => referenceFits r
  | .freshnessExpiry => true
  | .dwellExpiry => true
  | .retargetTrigger p => pairFits p
  | .install => true
  | .previewCompletion => true
  | .waveRelease => true
  | .arbiterScan => true
  | .segmentSample t _ a => turbineFits t && decide (-1800 ≤ a) && decide (a ≤ 1800)
  | .timeoutExpiry t => turbineFits t
  | .simulatedSettleExpiry t => turbineFits t
  | .refreshExpiry t => turbineFits t
  | .swapConditionReport _ => true
  | .refillCompletion => true
  | .holdReport _ => true
  | .commitStateReport _ => true
  | .installReport i => installFits i
  | .releaseReport p k => planFits p && waveFits k
  | .watchArming p k => planFits p && waveFits k
  | .arrivalSample r p t => rowFits r && u16Fits p && u32Fits t
  | .windowExpiry k => decide (1 ≤ k) && waveFits k
  | .abortReport p => planFits p
  | .completionReport p => planFits p
  | .linePathModeChange _ => true
  | .estimatorModeChange _ => true
  | .plannerModeChange _ => true
  | .unwindEntry => true
  | .offEntry => true
  | .upkeepModeChange _ => true
  | .unwindFigures p n => u16Fits p && decide (n ≤ Config.turbines)
  | .urgentFinishReport _ => true
  | .unwindEnd => true
  | .lineLevelChange _ _ => true
  | .gridholdReport _ => true
  | .noticeEntry n => noticeFits n
  | .saveEnd _ => true
  | .resetAssertion => true
  | .startUp _ _ _ => true
  | .unknownRequest r => requestFits r
  | .setTurbine _ a => argsFit twoFit a
  | .clearTurbine _ a => argsFit u16Fits a
  | .setRow _ a => argsFit setRowFits a
  | .setReference _ a => argsFit (fun x => u16Fits x.1) a
  | .setCorrection _ a => argsFit setCorrectionFits a
  | .clearFault _ a => argsFit u16Fits a
  | .readTurbine _ a => argsFit u16Fits a
  | .readRow _ a => argsFit u16Fits a
  | .setWindParams _ a => argsFit setWindParamsFits a
  | .setBands _ a => argsFit setBandsFits a
  | .setSectors _ a => argsFit u16Fits a
  | .readEstimate _ _ => true
  | .writeOffsets _ a => argsFit writeOffsetsFits a
  | .writeSector _ a => argsFit writeSectorFits a
  | .readOffsets _ a => argsFit readOffsetsFits a
  | .readSector _ a => argsFit (fun x => u16Fits x.2) a
  | .commit _ _ => true
  | .cancelCommit _ _ => true
  | .readTableState _ _ => true
  | .setPlanParams _ a => argsFit planParamsFit a
  | .retarget _ _ => true
  | .preview _ a => argsFit (fun p => twoFit (p.sector, p.band)) a
  | .readPreview _ a => argsFit u16Fits a
  | .hold _ _ => true
  | .resume _ _ => true
  | .setBudgets _ a => argsFit setBudgetsFits a
  | .readPlan _ _ => true
  | .readMoves _ a => argsFit (fun x => u32Fits x.1 && u16Fits x.2) a
  | .enable _ _ => true
  | .dry _ _ => true
  | .disable _ _ => true
  | .unwind _ _ => true
  | .setLines _ _ => true
  | .readMode _ _ => true
  | .setArrival _ a => argsFit setArrivalFits a
  | .readTrims _ _ => true
  | .writeTrim _ a => argsFit twoFit a
  | .readArrivals _ _ => true
  | .setLink _ a => argsFit setLinkFits a
  | .setNotices _ a => argsFit setNoticesFits a
  | .readLink _ _ => true
  | .saveImage _ _ => true
  | .readImageState _ _ => true
  | .identify _ _ => true
  | .restart _ _ => true
  | .gateModeChange _ => true
  | .arrivalMonitorModeChange _ => true

end Sys2Proof
end

