-- ==== Sys2Proof/Tests/Slice0.lean ====
section
/-! SUPPORT. The model's own tests: the smoke test of WellFormed, the manual's worked figures (their source is named at each),
one check of each family of commands on a small state, and a witness for the hypotheses of every statement. -/

namespace Sys2Proof.Tests

open Sys2Proof Sys2Proof.Machine

/-! ### Small states -/

/-- The head of a test request. -/
def hd : ReqHead := ⟨1#8, 77#16, 9#48⟩

/-- Run one command from a state. -/
def run1 (c : Instr) (s : State) : State :=
  match exec c s with
  | .next t => t
  | .fault _ => s
  | .refused _ => s

/-- A farm of two rows of one turbine each, both ONLINE and IDLE, the second row's turbine its arrival reference. -/
def farm : State :=
  { State.reset with
    clock := 100
    fleet := ⟨⟨[(20, ⟨some 1020, false, 0, 4096⟩), (21, ⟨some 1021, true, -12, 3931⟩)]⟩,
      ⟨[(20, ⟨.online, some .idle, some 0, some 80, some 900, some 0, some 90, some 1, some 120⟩),
        (21, ⟨.online, some .idle, some 0, some 80, some 800, some 0, some 90, some 1, some 121⟩)]⟩,
      ⟨[(2, ⟨[20], none⟩), (5, ⟨[21], some 21⟩)]⟩⟩ }

/-- A bank whose sector 0 steers the two rows, 840 m apart: turbine 20 to -140, turbine 21 to 3. -/
def bank : Bank := ⟨⟨[(1044, -140), (1045, 3)]⟩, ⟨[(0, ⟨[2, 5], [840]⟩)]⟩⟩

/-- The farm in a mode, the tables VALID, the transmitters busy, the part otherwise at rest. -/
def inMode (m : Mode) : State :=
  { farm with
    line := { farm.line with
      modeIn := m, sPort := ⟨some ⟨[], false⟩, none, none, false⟩, fPort := ⟨some ⟨[], false⟩, none, none, false⟩ }
    wind := { farm.wind with
      direction := 3590, speed := 96, valid := true, freshness := some 110, candidateSector := some 0
      candidateBand := some 4, dwellTimer := some 105, dwellPair := some ⟨⟨0, 4⟩, false⟩, modeIn := m }
    tables := { farm.tables with bankA := bank, valid := true }
    planner := { farm.planner with modeIn := m }
    gate := { farm.gate with modeIn := m, components := ⟨[(20, 25)]⟩ }
    upkeep := { farm.upkeep with modeIn := m }
    monitor := { farm.monitor with modeIn := m }
    modes := { farm.modes with mode := m, steering := steeringOutput m } }

/-- A NORMAL record of turbine 20 with 25 behind it and -140 ahead. -/
def record (state : RecordState) : MoveRecord :=
  ⟨7, 3, .normal, 20, some 1, 25, -140, 3, 0, none, none, state, none, none⟩

/-- A plan of two waves whose second waits for plan time 84. -/
def plan : Plan := ⟨3, ⟨0, 4⟩, 96, 64, [⟨2, 0, none, [], false⟩, ⟨5, 84, some 84, [7], false⟩, ⟨6, 200, some 116, [], false⟩],
  .running, 0, 0, 1⟩

/-- A steering part with the plan installed and one record in a state. -/
def steeringWith (m : Mode) (state : RecordState) (queue : List Nat) (flights : List Flight) : State :=
  let s := inMode m
  { s with gate := { s.gate with
    installed := some plan, ring := [record state], recordCounter := 7, planCounter := 3, normalQueue := queue
    flights := flights, scanDue := true } }

/-- The segment of that record in flight to -35. -/
def flight (fate : Fate) (simulated : Bool) : Flight := ⟨7, 20, -60, -35, 180, simulated, fate⟩

/-- A watch of the second row. -/
def watch (state : WatchState) : Watch :=
  { index := 1, upwind := 2, downwind := 5, delay := 84, reference := some 21, release := none, state := state
    armed := some 100, baseline := some 800, threshold := some 862, windowLength := some 168, window := some 268
    observed := none, power := none }

/-- A monitoring part. -/
def monitoring (state : WatchState) : State :=
  let s := inMode .live
  { s with monitor := { s.monitor with
    plan := some ⟨3, ⟨0, 4⟩, 64⟩, watches := [watch state], learning := true } }

/-- An unwind under way. -/
def unwinding : State :=
  let s := inMode .unwind
  { s with modes := { s.modes with unwindRecord := some ⟨.inProgress, 90, none, 3, 2, 1, 0, 0, 0⟩ } }

/-- A build of pair (0, 4) in a mode. -/
def building (m : Mode) (kind : BuildKind) : State :=
  let s := inMode m
  { s with planner := { s.planner with build := some ⟨kind, ⟨0, 4⟩, ⟨96, 64, 30, 600, 40, 250⟩⟩ } }

/-- A received park frame. -/
def parkFrame (t : Telegram) : Frame := buildFrame 7#48 9#48 0xA7C2 t

/-- A controller BIAS telegram of 220 for turbine 20. -/
def biasTelegram : Telegram := ⟨1020, 77, 2, 4#8, 9#8, none, [0#8, 220#8, 0#8]⟩

/-- A READ_MODE request to the part. -/
def mreq : Telegram := ⟨65001, 77, 0x10, 0#8, 3#8, none, [6#8, 1#8, 6#8, 0#8, 0#8]⟩

/-- A request is handed in a state whose inbox is empty and whose Dispatcher is ready (R175, R176). -/
theorem handsOver_at (s : State) {c : Instr} {h : ReqHead} {u : Nat} (hp : s.powered = true)
    (hr : s.dispatcher.ready = true) (hi : s.line.inbox = []) (ht : h.transaction ≠ 255#8)
    (hb : s.dispatcher.unitBusy u = false) : s.handsOver c h u s :=
  ⟨by simp [State.takeRequest, hp, hr, hi], ht, hb⟩

/-! ### WellFormed refuses -/

theorem test_wf_turbine : wellFormed (.staleExpiry 256) = false := by decide
theorem test_wf_row : wellFormed (.arrivalSample 16 0 0) = false := by decide
theorem test_wf_u32 : wellFormed (.arrivalSample 0 0 4294967296) = false := by decide
theorem test_wf_u16 : wellFormed (.clearFault hd (some 65536)) = false := by decide
theorem test_wf_i16 : wellFormed (.setCorrection hd (some ⟨0, 32768, 0⟩)) = false := by decide
theorem test_wf_plan : wellFormed (.abortReport 0) = false := by decide
theorem test_wf_pair : wellFormed (.retargetTrigger ⟨36, 0⟩) = false := by decide
theorem test_wf_wave : wellFormed (.releaseReport 1 16) = false := by decide
theorem test_wf_reference : wellFormed (.referenceSample ⟨0, 0, some 3600, none, 0, 4096⟩) = false := by decide
theorem test_wf_install : wellFormed (.installReport ⟨1, ⟨0, 0⟩, 31, [], none⟩) = false := by decide
theorem test_wf_notice : wellFormed (.noticeEntry (.failure 0 1)) = false := by decide
theorem test_wf_set_row : wellFormed (.setRow hd (some ⟨0, [65536], none⟩)) = false := by decide
theorem test_wf_wind_params : wellFormed (.setWindParams hd (some ⟨65536, 0, 0, 0, 0, 0, 0⟩)) = false := by decide
theorem test_wf_bands : wellFormed (.setBands hd (some ⟨[1, 2, 3], 0⟩)) = false := by decide
theorem test_wf_offsets : wellFormed (.writeOffsets hd (some ⟨0, 0, 0, 0, 1, [-32769]⟩)) = false := by decide
theorem test_wf_sector : wellFormed (.writeSector hd (some ⟨0, [65536], []⟩)) = false := by decide
theorem test_wf_read_offsets : wellFormed (.readOffsets hd (some ⟨.active, 0, 0, 65536, 0, 0⟩)) = false := by decide
theorem test_wf_plan_params :
    wellFormed (.setPlanParams hd (some { factoryPlanParams with refresh := 65536 })) = false := by decide
theorem test_wf_budgets : wellFormed (.setBudgets hd (some ⟨[1], 1⟩)) = false := by decide
theorem test_wf_arrival : wellFormed (.setArrival hd (some ⟨65536, 0, true⟩)) = false := by decide
theorem test_wf_link : wellFormed (.setLink hd (some ⟨65536, 0, true⟩)) = false := by decide
theorem test_wf_notices : wellFormed (.setNotices hd (some ⟨[0, 0, 0], 1⟩)) = false := by decide
theorem test_wf_request : wellFormed (.unknownRequest ⟨hd, 1#8, 1#8, 0, 6, []⟩) = false := by decide
theorem test_wf_segment : wellFormed (.segmentSample 0 .idle 1801) = false := by decide
theorem test_wf_window : wellFormed (.windowExpiry 0) = false := by decide
theorem test_wf_figures : wellFormed (.unwindFigures 1 257) = false := by decide
theorem test_wf_moves : wellFormed (.readMoves hd (some (4294967296, 1))) = false := by decide
theorem test_wf_accepts : wellFormed (.setTurbine hd (some (255, 65534))) = true := by decide

/-! ### The manual's worked figures -/

/-- R2: half up and half away from zero. -/
theorem test_half_up : halfUp 7930 100 = 79 ∧ halfUp 143 2 = 72 := by decide
/-- R42: the three corrected directions. -/
theorem test_corrected_direction :
    correctedDirection 25 (-12) = 13 ∧ correctedDirection 5 (-12) = 3593 ∧ correctedDirection 3595 30 = 25 := by decide
/-- R43: the corrected speeds of its table. -/
theorem test_corrected_speed :
    correctedSpeed 104 3931 = 100 ∧ correctedSpeed 5 2048 = 3 ∧ correctedSpeed 600 4096 = 400 ∧
      correctedSpeed 0 3000 = 0 := by decide
/-- R46: with gain 32 a difference of 3 leaves the direction, 4 moves it; exactly opposite counts as +1800. -/
theorem test_filter_rest : filterStep 3 32 = 0 ∧ filterStep (-3) 32 = 0 ∧ filterStep 4 32 = 1 ∧ wrapDiff 0 1800 = 1800 := by
  decide
/-- R90: the smallest and the largest raw delay. -/
theorem test_raw_delay : rawDelay 100 ⟨400, 32, 30, 600, 40, 250⟩ = 1 ∧ rawDelay 3000 ⟨0, 128, 30, 600, 20, 250⟩ = 3000 := by
  decide
/-- Section 6.5: from +25 to -140 under M 60 in three segments. -/
theorem test_segments : signedStep 60 (-140 - 25) = -60 ∧ signedStep 60 (-140 + 95) = -45 ∧ segmentCount 60 (-165) = 3 := by
  decide
/-- R120: nominal durations 20, 15 and 3 s. -/
theorem test_nominal : nominalDuration (-60) 3 = 20 ∧ nominalDuration 45 3 = 15 ∧ nominalDuration 10 4 = 3 := by decide
/-- R134: with L 250, +220 and +60 are clamped to +250. -/
theorem test_commanded_bias :
    State.commandedBias { inMode .live with
      upkeep := ⟨⟨[(20, 220)]⟩, ⟨[]⟩, [], .live⟩, gate := { Gate.factory with components := ⟨[(20, 60)]⟩ } } 20 = 250 := by
  decide
/-- R71: a run from slot 60 of page 1 wraps to its slot 0 and leaves page 2 alone; a value above +300 is saturated. -/
theorem test_write_wraps :
    (Bank.writeRun 0 0 1 60 0 [1, 2, 500, 4, 5] Bank.zeroed).offset 0 0 126 = 300 ∧
      (Bank.writeRun 0 0 1 60 0 [1, 2, 500, 4, 5] Bank.zeroed).offset 0 0 64 = 5 ∧
      (Bank.writeRun 0 0 1 60 0 [1, 2, 500, 4, 5] Bank.zeroed).offset 0 0 128 = 0 := by decide
/-- R4: the timebase wraps, and a difference across the wrap is small. -/
theorem test_timebase : timebaseDiff 2 4294967295 = 3 := by simp [timebaseDiff, Config.timebaseSpan]
/-- R187, R186: start-up with no image and both lines LOW is the reset state. -/
theorem test_start_up_is_reset : run1 (.startUp true .low .low) (run1 .resetAssertion (inMode .live)) = State.reset := by
  decide
/-- R187: a save cut off by the reset line leaves the image CORRUPT. -/
theorem test_cut_save :
    (run1 (.startUp true .low .low)
      (run1 .resetAssertion (run1 (.saveImage hd (some ())) (inMode .off)))).image.state = .corrupt := by
  show (State.startUp true .low .low (run1 .resetAssertion (run1 (.saveImage hd (some ())) (inMode .off)))).image.state = _
  have hj : judgeMemory true (run1 .resetAssertion (run1 (.saveImage hd (some ())) (inMode .off))).image.memory =
      (.corrupt, none) := by
    show judgeMemory true (some (tornBlock none (inMode .off).imageContent)) = _
    simp [judgeMemory]
  rw [State.startUp_factory hj]
  decide
/-- R185-R188: a saved farm comes back at the next start-up. -/
theorem test_saved_farm_loads :
    let s := run1 (.startUp true .low .high)
      (run1 .resetAssertion (run1 (.saveEnd .writtenAndReadBack) (run1 (.saveImage hd (some ())) (inMode .off))))
    s.image.state = .valid ∧ s.fleet.rows = farm.fleet.rows ∧ s.tables.bankA = bank ∧ s.modes.gridhold.isActive = true ∧
      s.gate.lineHold = true ∧ s.reports = [.holdReport true] := by
  have hj : judgeMemory true
      (run1 .resetAssertion (run1 (.saveEnd .writtenAndReadBack) (run1 (.saveImage hd (some ())) (inMode .off)))).image.memory =
      (.valid, some (inMode .off).imageContent) := judgeMemory_written (by decide)
  have h : run1 (.startUp true .low .high)
      (run1 .resetAssertion (run1 (.saveEnd .writtenAndReadBack) (run1 (.saveImage hd (some ())) (inMode .off)))) = _ :=
    State.startUp_valid hj .low .high
  rw [h]
  decide
/-- R186: an image is judged by its mark, then its format number, then its CRC. -/
theorem test_judgement_order (b : ImageBlock) :
    (b.mark ≠ Config.imageMark → b.judge = .absent) ∧
      (b.mark = Config.imageMark → b.format ≠ Config.imageFormat → b.judge = .corrupt) ∧
      (b.mark = Config.imageMark → b.format = Config.imageFormat → b.crcOk = false → b.judge = .corrupt) :=
  ⟨fun h => by simp [ImageBlock.judge, h], fun h1 h2 => by simp [ImageBlock.judge, h1, h2],
    fun h1 h2 h3 => by simp [ImageBlock.judge, h1, h2, h3]⟩

/-! ### One check of each family of commands -/

theorem test_stale_expiry : ((run1 (.staleExpiry 20) farm).fleet.dynamic 20).availability = .stale := by decide
theorem test_clear_fault :
    ((run1 (.clearFault hd (some 20)) { farm with fleet := farm.fleet.failureReported 20 }).fleet.dynamic 20).availability =
      .online := by decide
theorem test_seed_and_trigger :
    (run1 (.referenceSample ⟨21, 100, some 25, some 104, -12, 3931⟩) farm).wind.direction = 13 ∧
      (run1 .dwellExpiry (inMode .live)).reports = [.retargetTrigger ⟨0, 4⟩] := by decide
theorem test_enable_needs_tables :
    (run1 (.enable hd (some ())) (inMode .off)).modes.mode = .live ∧
      (run1 (.enable hd (some ())) farm).modes.mode = .off := by decide
theorem test_storm : (run1 (.lineLevelChange .storm .high) (inMode .live)).modes.mode = .unwind := by decide
theorem test_install :
    (run1 .install (building .live .retarget)).gate.normalQueue = [1] ∧
      ((run1 .install (building .live .retarget)).gate.installed.map (·.planTime)) = some 0 := by decide
theorem test_grant :
    (run1 .arbiterScan (run1 .install (building .dry .retarget))).gate.component 20 = -35 ∧
      ((run1 .arbiterScan (run1 .install (building .dry .retarget))).gate.flights.map (·.expires)) = [120] := by decide
theorem test_settle_goes_on :
    (run1 (.segmentSample 20 .idle 25) (steeringWith .live .inFlight [] [flight .own false])).gate.normalQueue = [7] := by
  decide
theorem test_off_entry : (run1 .offEntry (steeringWith .live .ready [7] [])).gate.components = ⟨[]⟩ := by decide
theorem test_vote_late :
    (run1 (.completionReport 3) (monitoring (.decided .late))).monitor.trim 0 = 65 := by decide
theorem test_swap :
    (run1 (.swapConditionReport (.planInstalled false))
      { farm with tables := { farm.tables with commitPending := true } }).tables.active = .b := by decide
/-- R77: "Planner building: no" finds the install's "plan installed: yes", made before it, taken: no swap. -/
theorem test_installed_before_building_ends :
    let s := run1 (.swapConditionReport (.plannerBuilding false)) (run1 .install { building .live .retarget with
      tables := { (building .live .retarget).tables with plannerBuilding := true, commitPending := true } })
    s.tables.active = .a ∧ s.tables.planInstalled = true ∧ s.reports.length = 1 := by decide
theorem test_resume_still_held :
    (run1 (.resume hd (some ())) { farm with gate := { farm.gate with requestHold := true, lineHold := true } }).gate.hold =
      true := by decide
theorem test_save_blocks_swap :
    (run1 (.swapConditionReport (.planInstalled false)) (run1 (.saveImage hd (some ()))
      { farm with tables := { farm.tables with commitPending := true } })).tables.active = .a := by decide
theorem test_pending_commit_blocks_build :
    let s := run1 (.commit hd (some ())) { inMode .live with
      tables := { (inMode .live).tables with bankB := ⟨⟨[]⟩, ⟨(List.range 24).map fun k => (k, ⟨[2, 5], [840]⟩)⟩⟩, planInstalled := true } }
    s.tables.commitPending = true ∧ (run1 (.retargetTrigger ⟨0, 4⟩) s).planner.build = none := by decide
/-- R79, R100: two swaps at once leave two reports under way, and a commit gone PENDING after them still blocks a build. -/
theorem test_pending_commit_outlasts_stale_reports :
    let s := run1 (.commitStateReport false) (run1 (.commit hd (some ())) { inMode .live with
      tables := { (inMode .live).tables with
        bankB := ⟨⟨[]⟩, ⟨(List.range 24).map fun k => (k, ⟨[2, 5], [840]⟩)⟩⟩, saveInProgress := true }
      reports := [.commitStateReport false, .roomEvent, .commitStateReport false] })
    s.tables.commitPending = true ∧ s.reports = [.roomEvent] := by decide
/-- R153: a build started after the plan's end reads the stepped trim, its completion report still under way. -/
theorem test_trim_settled_before_a_build :
    ((run1 (.retargetTrigger ⟨0, 4⟩) { monitoring (.decided .late) with
      reports := [.roomEvent, .completionReport 3] }).planner.build.map (·.inputs.trim)) = some 65 := by decide
/-- Section 9: the report of the next plan's install finds the completion reported before it taken, its vote with it. -/
theorem test_monitor_reports_in_order :
    let s := run1 (.installReport ⟨4, ⟨0, 4⟩, 64, [⟨2, none⟩, ⟨5, some 84⟩], none⟩) { monitoring (.decided .late) with
      reports := [.completionReport 3, .roomEvent, .installReport ⟨4, ⟨0, 4⟩, 64, [⟨2, none⟩, ⟨5, some 84⟩], none⟩] }
    s.monitor.trim 0 = 65 ∧ s.monitor.arrivals.map (·.plan.number) = some 3 ∧ s.monitor.plan.map (·.number) = some 4 ∧
      s.reports = [.roomEvent] := by decide
/-- R74, R86, R87: after DISABLE and SET_ROW a trigger that was under way is latched and starts no build, the Planner having taken
the report of OFF by then. -/
theorem test_no_build_from_an_invalid_bank :
    let s := run1 (.setRow hd (some ⟨2, [20], none⟩)) (run1 (.disable hd (some ()))
      { inMode .live with reports := [.retargetTrigger ⟨0, 4⟩] })
    let t := run1 (.retargetTrigger ⟨0, 4⟩) s
    s.tables.valid = false ∧ s.planner.modeIn = .off ∧ .retargetTrigger ⟨0, 4⟩ ∈ s.reports ∧ s.reports.length = 5 ∧
      t.planner.latch = some ⟨0, 4⟩ ∧ t.planner.build = none := by decide
/-- R63: the report of OFF, taken by then, has cleared the dwell and the latch before SET_SECTORS. -/
theorem test_set_sectors_after_off :
    let s := run1 (.setSectors hd (some 12)) (run1 (.disable hd (some ()))
      { inMode .live with planner := { (inMode .live).planner with latch := some ⟨23, 4⟩, commitIn := true } })
    s.planner.latch = none ∧ s.wind.dwellPair = none ∧ s.wind.candidateSector = some 0 := by decide
/-- R86: a geometry request in OFF leaves a latched pair and a trigger under way. -/
theorem test_latch_outlives_geometry :
    let s := run1 (.setTurbine hd (some (20, 1020))) { inMode .off with
      planner := { (inMode .off).planner with latch := some ⟨0, 4⟩ }, reports := [.retargetTrigger ⟨1, 3⟩] }
    s.tables.valid = false ∧ s.planner.latch = some ⟨0, 4⟩ ∧ s.reports = [.retargetTrigger ⟨1, 3⟩] := by decide
/-- R66: a plan for a pair whose sector S excludes uses no record of the bank. -/
theorem test_excluded_sector_has_no_wave :
    let s := building .live .retarget
    (run1 .install { s with
      wind := { s.wind with params := { s.wind.params with sectors := 12 } }
      tables := { s.tables with bankA := { bank with sectors := ⟨[(12, ⟨[2, 5], [840]⟩)]⟩ } }
      planner := { s.planner with build := some ⟨.retarget, ⟨12, 4⟩, ⟨96, 64, 30, 600, 40, 250⟩⟩ } }).gate.last.map
        (fun p => (p.pair, p.waves.length, p.state)) = some (⟨12, 4⟩, 0, .complete) := by decide
/-- R146: a vote does not reach a sector that S excludes. -/
theorem test_vote_excluded_sector :
    let s := monitoring (.decided .late)
    (run1 (.completionReport 3) { s with
      wind := { s.wind with params := { s.wind.params with sectors := 12 } }
      monitor := { s.monitor with plan := some ⟨3, ⟨12, 4⟩, 64⟩ } }).monitor.trim 12 = 64 := by decide
/-- R168: the Gate back in LIVE, the Planner's report of the entry to OFF still under way. -/
theorem test_install_after_an_entry_passed :
    ((run1 .install { building .live .retarget with
      reports := [.plannerModeChange .off, .plannerModeChange .live] }).gate.last.map (·.state)) = some .aborted := by decide
theorem test_install_before_the_gate_report :
    ((run1 .install { building .live .retarget with
      gate := { (building .live .retarget).gate with modeIn := .off }
      reports := [.gateModeChange .live] }).gate.installed.map (·.state)) = some .running := by decide
/-- R113, R115: a ring across the wrap of the record numbers is read in the order of creation. -/
theorem test_read_moves_wraps :
    let g := { farm.gate with ring := [{ record .settled with sequence := 4294967295 }, { record .settled with sequence := 1 }] }
    (g.recordsFrom 4294967295 16).map (·.sequence) = [4294967295, 1] ∧ (g.recordsFrom 1 16).map (·.sequence) = [1] := by
  decide
/-- R165, R166: the end report finds the figures and the FAILED finish made before it taken. -/
theorem test_unwind_reports_in_order :
    (run1 .unwindEnd { unwinding with
      reports := [.unwindFigures 9 1, .roomEvent, .urgentFinishReport .failed, .unwindEnd] }).modes.unwindRecord.map
        (fun r => (r.planAborted, r.created, r.failed, r.outcome)) = some (9, 1, 1, .incomplete) := by decide
theorem test_notice_discarded : (run1 (.noticeEntry (.failure 1 1)) farm).dispatcher.pendingNotices = [] := by decide
theorem test_request_taken :
    (run1 (.frameReception .sPort (parkFrame mreq)) farm).line.inbox.map requestInstr = [.readMode ⟨1#8, 77#16, 9#48⟩ (some ())] := by
  decide +kernel
theorem test_bias_rewritten :
    (run1 (.frameReception .sPort (parkFrame biasTelegram)) (inMode .live)).line.s2f.map parseTelegram =
      [some { biasTelegram with flags := 4#8, body := [0#8, 245#8, 0#8] }] := by decide +kernel

/-! ### Witnesses: states and operands that meet the hypotheses of each statement, clause by clause -/

/-- Nothing keeps a request of any unit from being handed. -/
def atRest (s : State) : Bool :=
  s.powered && s.dispatcher.ready && s.line.inbox.isEmpty && s.dispatcher.plannerLate.isNone && s.dispatcher.imageLate.isNone

/-- In such a state every request of the test head is handed. -/
theorem handed {s : State} (h : atRest s = true) (c : Instr) (u : Nat) : s.handsOver c hd u s := by
  simp only [atRest, Bool.and_eq_true, List.isEmpty_iff, Option.isNone_iff_eq_none] at h
  obtain ⟨⟨⟨⟨h1, h2⟩, h3⟩, h4⟩, h5⟩ := h
  exact handsOver_at s h1 h2 h3 (by decide) (by simp [Dispatcher.unitBusy, h4, h5])

/-- A build under way in `off`, and a save under way. -/
def saving : State := { farm with image := { farm.image with save := some (inMode .off).imageContent } }
/-- A refill under way, a commit pending. -/
def refilling (refill pending : Bool) : State :=
  { farm with tables := { farm.tables with
      refill := if refill then some ⟨some (true, 90)⟩ else none, commitPending := pending } }
/-- The replies and the held replies of a reply queue of some length. -/
def replying (n : Nat) : State :=
  let s := inMode .live
  { s with line := { s.line with replies := List.replicate n ⟨[], false⟩ } }
/-- The S-to-F forward queue of some depth, its pause asserted or not. -/
def forwarding (n : Nat) (asserted : Bool) : State :=
  let s := inMode .live
  { s with line := { s.line with s2f := List.replicate n [], s2fAsserted := asserted } }
/-- The injection queue of some depth. -/
def injecting (n : Nat) : State :=
  let s := inMode .live
  { s with line := { s.line with injections := List.replicate n ⟨.normal, []⟩ } }
/-- The part with both transmitters idle. -/
def idle (s : State) : State :=
  { s with line := { s.line with sPort := ⟨none, none, none, false⟩, fPort := ⟨none, none, none, true⟩ } }
/-- A frame that is no park frame. -/
def foreignFrame : Frame := buildFrame 7#48 9#48 0x0800 mreq
/-- A MAC control frame that is no PAUSE. -/
def controlFrame : Frame := buildFrame 7#48 9#48 0x8808 { mreq with dest := 2 }
/-- The F-port with something to do: a transmission to end, a pause received, a PAUSE waiting, frames of both queues. -/
def fPortState (paused waiting : Option Nat) (ownLast : Bool) : State :=
  let s := inMode .live
  { s with line := { s.line with
      s2f := [[1#8]], injections := [⟨.normal, [2#8]⟩], fPort := ⟨some ⟨[], false⟩, paused, waiting, ownLast⟩ } }

theorem witness_StepTakesFrontCommand :
    (∃ c rest, { farm with pending := [.roomEvent, .install] }.pending = c :: rest) ∧
      (farm.pending = [] ∧ { farm with reports := [.roomEvent] }.nextEvent = some .roomEvent) ∧
      (farm.pending = [] ∧ farm.nextEvent = none ∧ farm.powered = true) :=
  ⟨⟨_, _, rfl⟩, by decide, by decide⟩

theorem witness_EnvelopeIsJudgedInOrder :
    farm.handsOver (.readTurbine hd none) hd 1 farm ∧
    (∀ r : Request, farm.takeRequest (.unknownRequest r) = some farm) ∧
    (⟨255#8, 77#16, 9#48⟩ : ReqHead).transaction = 255#8 ∧
    (hd.transaction ≠ 255#8 ∧ requestCommand ⟨hd, 11#8, 1#8, 0, 5, []⟩ = none) ∧
    ((requestCommand ⟨hd, 6#8, 6#8, 0, 6, []⟩).isSome ∧ 6 ≠ 5 + 0 ∧ (requestCommand ⟨hd, 6#8, 6#8, 0, 5, []⟩).isSome) ∧
    ((requestCommand ⟨hd, 4#8, 1#8, 0, 5, []⟩).isSome ∧
      (building .live .preview).dispatcher.unitBusy 4 = false ∧
      { farm with dispatcher := { farm.dispatcher with plannerLate := some hd } }.dispatcher.unitBusy 4 = true) :=
  ⟨handed rfl _ _, fun _ => rfl, rfl, by decide, by decide, by decide⟩

/-- A request waits in the inbox, and one behind it. -/
def requested : State :=
  { farm with line := { farm.line with inbox := [⟨hd, 6#8, 6#8, 0, 5, []⟩, ⟨hd, 6#8, 1#8, 0, 5, []⟩] } }

theorem witness_EnvelopeIsJudgedInOrder_taken :
    (requested.powered = true ∧ requested.dispatcher.held = [] ∧ requested.dispatcher.restartTaken = false ∧
        requested.line.inbox.map requestInstr = [.readMode hd (some ()), .enable hd (some ())] ∧
        (requestAt (.enable hd (some ()))).isSome ∧ run1 (.enable hd (some ())) requested = requested ∧
        (run1 (.readMode hd (some ())) requested).line.inbox.length = 1) ∧
      (farm.powered = true ∧ farm.dispatcher.held = [] ∧ farm.dispatcher.restartTaken = false ∧ farm.line.inbox = []) ∧
      (∀ d : Dispatcher, d = { farm.dispatcher with plannerLate := some hd, imageLate := some hd } →
        (∀ c, { farm with dispatcher := d }.takeRequest c = some { farm with dispatcher := d }) ∧
        d.plannerLate ≠ none ∧ d.imageLate ≠ none) ∧
      requestAt (.readPreview hd (some 0)) = some (hd, 4) ∧ requestAt (.saveImage hd (some ())) = some (hd, 9) ∧
      requestAt (.hold ⟨255#8, 77#16, 9#48⟩ (some ())) = some (⟨255#8, 77#16, 9#48⟩, 5) ∧
      { farm.dispatcher with restartTaken := true }.restartTaken = true := by
  refine ⟨by decide, by decide, ?_, by decide, by decide, by decide, rfl⟩
  rintro d rfl
  exact ⟨fun _ => rfl, by simp, by simp⟩

theorem witness_AnswerIsPlacedOrHeld :
    ((replying 7).line.replies.length < 8 ∧ (replying 7).line.sPort.transmission.isSome = true) ∧
      ((idle (replying 7)).line.replies.length < 8 ∧ ((idle (replying 7)).line.port .sPort).transmission = none) ∧
      8 ≤ (replying 8).line.replies.length := by decide

theorem witness_ReadsAnswerAndChangeNothing :
    (∀ c u, farm.handsOver c hd u farm) ∧ (∀ c u, saving.handsOver c hd u saving) ∧ 255 < 256 ∧ ¬ 256 < 256 ∧ 15 < 16 ∧
      farm.image.save = none ∧ saving.image.save ≠ none :=
  ⟨handed rfl, handed rfl, by decide⟩

theorem witness_ReadMovesReturnsRetainedRecords :
    (∀ c u, (steeringWith .live .ready [7] []).handsOver c hd u (steeringWith .live .ready [7] [])) ∧
      ((0 : Nat) < 1 ∧ 16 < 17) ∧
      ((steeringWith .live .ready [7] []).gate.ring = record .ready :: [] ∧ 6 < (record .ready).sequence ∧
        ∀ r ∈ (steeringWith .live .ready [7] []).gate.ring, r.sequence ≠ 6) ∧
      (∀ oldest rest, (steeringWith .live .ready [7] []).gate.ring = oldest :: rest → oldest.sequence ≤ 7 ∧
        ∀ r ∈ rest, oldest.sequence ≤ r.sequence) := by
  refine ⟨handed rfl, by decide, ⟨rfl, by decide, by decide⟩, ?_⟩
  intro o r h
  injection h with h1 h2
  rw [← h1, ← h2]
  decide

/-- A ring across the wrap of the record numbers. -/
def wrapping : State :=
  { farm with gate := { farm.gate with ring :=
      [{ record .settled with sequence := 4294967295 }, { record .settled with sequence := 1 }] } }

theorem witness_ReadMovesReturnsRetainedRecords_wrap :
    (∀ c u, wrapping.handsOver c hd u wrapping) ∧ ∃ oldest before r after, wrapping.gate.ring.head? = some oldest ∧
      wrapping.gate.ring = before ++ r :: after ∧ r.sequence = 1 ∧ (∀ x ∈ before, x.sequence ≠ 1) ∧
      ∃ x ∈ wrapping.gate.ring, x.sequence < oldest.sequence :=
  ⟨handed rfl, _, [{ record .settled with sequence := 4294967295 }], { record .settled with sequence := 1 }, [], rfl, rfl, rfl,
    by decide, by decide⟩

theorem witness_TableReadsReturnTheNamedBank :
    (∀ c u, (refilling true false).handsOver c hd u (refilling true false)) ∧
      (23 < (refilling true false).wind.params.sectors ∧ (refilling true false).wind.params.sectors ≤ 24) ∧
      (refilling true false).tables.refill ≠ none ∧ (refilling false false).tables.refill = none :=
  ⟨handed rfl, by decide⟩

theorem witness_ParameterRequestsReplaceValues :
    (∀ c u, farm.handsOver c hd u farm) ∧ ([1, 32, 1, 32, 1, 32, 1, 32].length = 8) ∧
      ((1 ≤ 255 ∧ 100 ≤ 1800 ∧ 5 ≤ 120 ∧ 10 ≤ 600) ∧ ¬ (1 : Nat) ≤ 0) ∧ (0 + 2 * 0 < 1 ∧ ¬ 30 + 2 * 5 < 40) ∧
      (23 < farm.wind.params.sectors ∧ 32 ≤ 128 ∧ ¬ 32 ≤ 31) ∧ (65534 ≤ 65534 ∧ ¬ 65535 ≤ 65534 ∧ (4 = 1 ∨ 4 = 2 ∨ 4 = 4)) :=
  ⟨handed rfl, by decide⟩

theorem witness_BuiltTelegramIsReadBack :
    (∃ t : Telegram, t.dest < 65536 ∧ t.source < 65536 ∧ t.kind < 256 ∧ t.body.length ≤ 1475 ∧
      isTagged t.flags = true ∧ ∃ g, t.tag = some g ∧ g.length = 8) ∧
    (∃ t : Telegram, t.body.length ≤ 1475 ∧ isTagged t.flags = false ∧ t.tag = none) :=
  ⟨⟨⟨65535, 65535, 255, 255#8, 0#8, some (List.replicate 8 1#8), List.replicate 1475 2#8⟩, by decide, by decide, by decide,
      Nat.le_of_eq List.length_replicate, rfl, _, rfl, rfl⟩, mreq, by decide, by decide, rfl⟩

theorem witness_ForeignFramesAreForwarded :
    frameIsGood ((parkFrame mreq).drop 1) = false ∧
      (frameIsGood controlFrame = true ∧ fieldAt controlFrame 12 = 0x8808 ∧ fieldAt controlFrame 14 ≠ 1) ∧
      (frameIsGood foreignFrame = true ∧ fieldAt foreignFrame 12 ≠ 0x8808 ∧
        fieldAt foreignFrame 12 ≠ (forwarding 0 false).line.typeValue) := by decide +kernel

theorem witness_ForeignFramesAreForwarded_depths :
    (∀ a, (forwarding 47 a).powered = true ∧ ((forwarding 47 a).line.forward .sPort).length < 48 ∧
        ((forwarding 47 a).line.port .fPort).transmission.isSome = true ∧
        ((forwarding 47 a).line.port .sPort).transmission.isSome = true) ∧
      48 ≤ ((forwarding 48 true).line.forward .sPort).length ∧
      ((forwarding 39 false).line.forward .sPort).length + 1 = 40 ∧ (forwarding 39 false).line.asserted .sPort = false ∧
      40 ≤ ((forwarding 39 true).line.forward .sPort).length + 1 ∧ (forwarding 39 true).line.asserted .sPort = true := by
  decide

theorem witness_ForeignFramesAreForwarded_idle :
    ((idle (forwarding 39 false)).powered = true ∧ ((idle (forwarding 39 false)).line.forward .sPort).length + 1 = 40 ∧
        (idle (forwarding 39 false)).line.asserted .sPort = false ∧
        ((idle (forwarding 39 false)).line.port .sPort).transmission = none ∧
        ((idle (forwarding 39 false)).line.port .fPort).transmission = none) ∧
      ((idle (forwarding 38 false)).line.forward .sPort).length + 1 = 39 ∧
      ∃ v t, forwardJoins .sPort foreignFrame (idle (forwarding 39 false)) v ∧ portActs .fPort v t :=
  ⟨by decide, by decide, _, _, (forwardJoins_joinForward .sPort foreignFrame (idle (forwarding 39 false))).choose_spec⟩

theorem witness_ForeignFramesAreForwarded_park :
    ∀ m, (m = { mreq with dest := 65002 } ∨ m = { mreq with kind := 0x12 } ∨
        m = ⟨1020, 77, 2, 0#8, 9#8, none, [0#8, 220#8, 2#8]⟩ ∨ m = ⟨1020, 77, 2, 0#8, 9#8, none, [0#8, 220#8]⟩ ∨
        m = ⟨77, 999, 1, 0#8, 9#8, none, List.replicate 11 0#8⟩ ∨ m = ⟨77, 1020, 1, 0#8, 9#8, none, List.replicate 10 0#8⟩) →
      frameIsGood (parkFrame m) = true ∧ fieldAt (parkFrame m) 12 ≠ 0x8808 ∧
        fieldAt (parkFrame m) 12 = (forwarding 47 false).line.typeValue ∧ parseTelegram (parkFrame m) = some m ∧
        ¬ (m.kind = 0x10 ∧ m.dest = (forwarding 47 false).line.node) ∧
        ¬ (m.kind = 0x02 ∧ m.body.length = 3 ∧ (byteAt m.body 2 = 0 ∨ byteAt m.body 2 = 1)) ∧
        ¬ (m.kind = 0x01 ∧ m.body.length = 11 ∧ (forwarding 47 false).fleet.turbineAt m.source ≠ none) := by
  rintro m (rfl | rfl | rfl | rfl | rfl | rfl) <;> decide +kernel

theorem witness_RequestJoinsInbox :
    frameIsGood (parkFrame mreq) = true ∧ fieldAt (parkFrame mreq) 12 ≠ 0x8808 ∧
      fieldAt (parkFrame mreq) 12 = (inMode .live).line.typeValue ∧ parseTelegram (parkFrame mreq) = some mreq ∧
      mreq.kind = 0x10 ∧ mreq.dest = (inMode .live).line.node ∧ (inMode .live).powered = true ∧
      (List.replicate 7 (requestOf [] mreq)).length < 8 ∧ 8 ≤ (List.replicate 8 (requestOf [] mreq)).length := by
  decide +kernel

theorem witness_ControllerBiasIsRecordedAndRewritten :
    frameIsGood (parkFrame biasTelegram) = true ∧ fieldAt (parkFrame biasTelegram) 12 ≠ 0x8808 ∧
      fieldAt (parkFrame biasTelegram) 12 = (forwarding 47 false).line.typeValue ∧
      parseTelegram (parkFrame biasTelegram) = some { biasTelegram with flags := 4#8 } ∧ biasTelegram.kind = 0x02 ∧
      biasTelegram.body.length = 3 ∧ byteAt biasTelegram.body 2 = 0 ∧
      (forwarding 47 false).fleet.turbineAt biasTelegram.dest = some 20 ∧ (forwarding 47 false).line.s2f.length < 48 ∧
      (forwarding 47 false).powered = true ∧
      (inMode .off).upkeep.modeIn = .off ∧ (inMode .dry).upkeep.modeIn = .dry ∧ (inMode .live).upkeep.modeIn = .live ∧
      (inMode .unwind).upkeep.modeIn = .unwind := by decide +kernel

/-- The BIAS telegram with origin PART, and one to no turbine. -/
def partBias : Telegram := { biasTelegram with body := [0#8, 220#8, 1#8] }
/-- A BIAS telegram to no turbine. -/
def strayBias : Telegram := { biasTelegram with dest := 999 }

theorem witness_ControllerBiasIsRecordedAndRewritten_other :
    (parseTelegram (parkFrame partBias) = some { partBias with flags := 4#8 } ∧ partBias.body.length = 3 ∧
        byteAt partBias.body 2 = 1 ∧ (forwarding 47 false).fleet.turbineAt partBias.dest = some 20) ∧
      (parseTelegram (parkFrame strayBias) = some { strayBias with flags := 4#8 } ∧
        (forwarding 47 false).fleet.turbineAt strayBias.dest = none) ∧
      48 ≤ (forwarding 48 false).line.s2f.length := by decide +kernel

/-- A SAMPLE of the turbine with some address: sequence, yaw code and the achieved offset's bytes vary. -/
def sampleTelegram (address sequence yaw high low : Nat) : Telegram :=
  ⟨77, address, 1, 4#8, 9#8, none, u16 sequence ++ u16 25 ++ u16 104 ++ u16 900 ++ u8 yaw ++ u8 high ++ u8 low⟩

/-- The F-to-S forward queue of some depth, tagging on or off, a segment in flight or none. -/
def receiving (m : Mode) (n : Nat) (tagging : Bool) (flights : List Flight) : State :=
  let s := steeringWith m .inFlight [] flights
  { s with line := { s.line with f2s := List.replicate n [], tagging := tagging } }

theorem witness_SampleUpdatesTheRecord_frame :
    ∀ f m, (m = sampleTelegram 1020 2 3 0 0 ∨ m = sampleTelegram 1021 2 0 7 9) → f = parkFrame m →
      frameIsGood f = true ∧ fieldAt f 12 ≠ 0x8808 ∧ fieldAt f 12 = (receiving .live 47 true []).line.typeValue ∧
        parseTelegram f = some m ∧ m.kind = 0x01 ∧ m.body.length = 11 := by
  rintro f m (rfl | rfl) rfl <;> decide +kernel

theorem witness_SampleUpdatesTheRecord :
    (∀ m t l, (receiving m 47 t l).powered = true ∧ (receiving m 47 t l).line.f2s.length < 48 ∧
        (receiving m 47 t l).line.tagging = t ∧ (receiving m 47 t l).line.modeIn = m ∧ (receiving m 47 t l).gate.modeIn = m ∧
        (receiving m 47 t l).fleet.turbineAt (sampleTelegram 1020 2 3 0 0).source = some 20 ∧
        (receiving m 47 t l).fleet.turbineAt (sampleTelegram 1021 2 0 7 9).source = some 21) ∧
      48 ≤ (receiving .live 48 true []).line.f2s.length ∧
      (farm.fleet.dynamic 20).sequence = some (fieldAt (sampleTelegram 1020 1 3 0 0).body 0) ∧
      (farm.fleet.dynamic 20).sequence ≠ some (fieldAt (sampleTelegram 1020 2 3 0 0).body 0) ∧
      ((farm.fleet.static 20).reference = false ∧ (farm.fleet.static 21).reference = true) ∧
      (farm.fleet.referenceRow 20 = none ∧ farm.fleet.referenceRow 21 = some 5) ∧
      (1800 < signed16 (fieldAt (sampleTelegram 1021 2 0 7 9).body 9) ∧
        byteAt (sampleTelegram 1020 2 3 0 0).body 8 = 3) ∧
      ((receiving .live 47 true [flight .own false]).gate.flightOf 20 ≠ none ∧
        (receiving .live 47 true []).gate.flightOf 20 = none) := by
  refine ⟨fun m t l => ⟨rfl, ?_, rfl, rfl, rfl, rfl, rfl⟩, ?_, ?_⟩
  · show (List.replicate 47 ([] : Frame)).length < 48
    decide
  · show 48 ≤ (List.replicate 48 ([] : Frame)).length
    decide
  · decide

/-- The S-port with something to do: frames of both queues, a reply held or none, a notice pending. -/
def sPortState (replies : Nat) (restart ownLast : Bool) (held : List Reply) : State :=
  let s := inMode .live
  { s with
    line := { s.line with
      f2s := List.replicate 17 [1#8], f2sAsserted := true, replies := List.replicate replies ⟨[2#8], restart⟩
      sPort := ⟨some ⟨[], false⟩, none, none, ownLast⟩ }
    dispatcher := { s.dispatcher with
      held := held, destinations := [77, 0, 0, 0], pendingNotices := [⟨1, 0, [], false⟩] } }

theorem witness_PortEventsFreeTheTransmitter :
    (∀ a b c, (fPortState a b c).powered = true ∧ (fPortState a b c).line.fPort.transmission = some ⟨[], false⟩) ∧
      (fPortState (some 3) (some 0) true).line.fPort.waitingPause = some 0 ∧
      ((fPortState (some 1) none true).line.fPort.waitingPause = none ∧
        (fPortState (some 1) none true).line.fPort.paused.isSome = true) ∧
      (∀ c, (fPortState none none c).line.fPort.waitingPause = none ∧ (fPortState none none c).line.fPort.paused = none ∧
        (fPortState none none c).line.s2f = [1#8] :: [] ∧
        (fPortState none none c).line.injections = ⟨.normal, [2#8]⟩ :: [] ∧
        (fPortState none none c).line.fPort.ownLast = c) ∧
      ((fPortState (some 1) none true).line.port .fPort).paused.isSome = true ∧
      (∀ n r o h, (sPortState n r o h).powered = true ∧
        ((sPortState n r o h).line.port .sPort).transmission = some ⟨[], false⟩ ∧
        ((sPortState n r o h).line.port .sPort).paused = none ∧ (sPortState n r o h).dispatcher.held = h ∧
        (sPortState n r o h).line.sPort.ownLast = o) ∧
      ((sPortState 1 true true []).line.replies = [] ++ ⟨[2#8], true⟩ :: [] ∧
        (sPortState 8 false false [⟨hd, [], false, none⟩]).line.replies =
          ⟨[2#8], false⟩ :: List.replicate 7 ⟨[2#8], false⟩) ∧
      (∃ f fs, (sPortState 0 false true []).line.f2s = f :: fs ∧ fs.length = 16 ∧
        (sPortState 0 false true []).line.asserted .fPort = true) ∧
      (farm.line.port .sPort).transmission = none :=
  ⟨fun _ _ _ => ⟨rfl, rfl⟩, rfl, ⟨rfl, rfl⟩, fun _ => ⟨rfl, rfl, rfl, rfl, rfl⟩, rfl, fun _ _ _ _ => ⟨rfl, rfl, rfl, rfl, rfl⟩,
    ⟨rfl, rfl⟩, ⟨_, _, rfl, rfl, rfl⟩, rfl⟩

theorem witness_PortEventsFreeTheTransmitter_pause :
    ∀ q f, (q = 0 ∨ q = 1 ∨ q = 65535) → f = buildFrame 7#48 9#48 0x8808 { mreq with dest := 1, source := q } →
      frameIsGood f = true ∧ fieldAt f 12 = 0x8808 ∧ fieldAt f 14 = 1 ∧ fieldAt f 16 = q := by
  rintro q f (rfl | rfl | rfl) rfl <;> decide +kernel

/-- The RESTART reply in transmission, with a plan installed, an unwind under way, a commit PENDING and lines that are ACTIVE
afresh. -/
def restarting : State :=
  let s := steeringWith .unwind .ready [7] [flight .own false]
  { s with
    line := { s.line with sPort := ⟨some ⟨[], true⟩, none, none, true⟩ }
    tables := { s.tables with commitPending := true }
    modes := { s.modes with
      unwindRecord := some ⟨.inProgress, 90, none, 3, 2, 1, 0, 0, 0⟩, gridhold := ⟨⟨true, .rising⟩, .high, false⟩ }
    reports := [.swapConditionReport (.saveInProgress false), .roomEvent] }

theorem witness_RestartReturnsWorkingState :
    (∀ n c u, (replying n).handsOver c hd u (replying n)) ∧ (replying 7).line.replies.length < 8 ∧
      8 ≤ (replying 8).line.replies.length ∧ (replying 7).line.sPort.transmission.isSome = true ∧
      ((∀ c u, (idle (replying 7)).handsOver c hd u (idle (replying 7))) ∧ (idle (replying 7)).line.replies.length < 8) ∧
      (restarting.powered = true ∧ restarting.line.sPort.transmission = some ⟨[], true⟩ ∧
        (⟨[], true⟩ : Transmission).restartReply = true) ∧
      ∃ act : LineState → Bool, ∀ l, act l =
        (l.config.enabled && decide (l.level = (match l.config.edge with | .rising => .high | .falling => .low))) :=
  ⟨fun _ => handed rfl, by decide, by decide, rfl, ⟨handed rfl, by decide⟩, ⟨rfl, rfl, rfl⟩, _, fun _ => rfl⟩

theorem witness_ModeReportsSetTheInputs :
    (injecting 2).powered = true ∧ (injecting 2).line.injections ≠ [] ∧ Mode.live ≠ .off := by decide

theorem witness_StaleTimerAndClearFault :
    (farm.powered = true ∧ (farm.fleet.dynamic 20).stale = some 120 ∧ (farm.fleet.dynamic 20).availability = .online) ∧
      (∀ c u, farm.handsOver c hd u farm) ∧ (20 < 256 ∧ farm.fleet.populated 20 = true) ∧
      ¬ (22 < 256 ∧ farm.fleet.populated 22 = true) :=
  ⟨by decide, handed rfl, by decide, by decide⟩

/-- The part just out of LIVE, the six reports of OFF under way, a pair latched. -/
def leaving : State :=
  let s := inMode .live
  { s with
    modes := { s.modes with mode := .off, steering := false }, reports := sixReports .off .offEntry
    planner := { s.planner with latch := some ⟨0, 4⟩, commitIn := true } }

theorem witness_GeometryRequests_settled :
    (∀ c u, leaving.handsOver c hd u leaving) ∧ (∃ v, modesSettled leaving v ∧ v.wind.dwellPair = none ∧
      v.planner.latch = none ∧ v.planner.modeIn = .off ∧ v.reports.length = 4) ∧
      leaving.modes.mode = .off ∧ leaving.planner.build = none ∧ leaving.image.save = none ∧
      leaving.tables.commitPending = false ∧ leaving.fleet.populated 20 = true :=
  ⟨handed rfl, ⟨_, modesSettled_settleModes rfl, by decide⟩, by decide⟩

theorem witness_SetTurbineActsByRecord :
    (∀ c u, farm.handsOver c hd u farm) ∧ (∃ v, modesSettled farm v) ∧ farm.modes.mode = .off ∧ farm.planner.build = none ∧ farm.image.save = none ∧
      farm.tables.commitPending = false ∧
      (255 < 256 ∧ 65534 ≠ farm.line.node ∧ (∀ c ∈ farm.fleet.statics.cells, c.1 ≠ 255 → c.2.address ≠ some 65534) ∧
        (farm.fleet.static 255).address = none) ∧
      ((∀ c ∈ farm.fleet.statics.cells, c.1 ≠ 20 → c.2.address ≠ some 1020) ∧
        (farm.fleet.static 20).address = some 1020 ∧ 1020 ≠ farm.line.node) ∧
      (∀ c ∈ farm.fleet.statics.cells, c.1 ≠ 20 → c.2.address ≠ some 1) ∧
      ¬ (65001 ≠ farm.line.node) ∧ ¬ (∀ c ∈ farm.fleet.statics.cells, c.1 ≠ 20 → c.2.address ≠ some 1021) :=
  ⟨handed rfl, ⟨_, modesSettled_settleModes rfl⟩, by decide⟩

theorem witness_ClearTurbineLeavesItsRow :
    (∀ c u, farm.handsOver c hd u farm) ∧ (∃ v, modesSettled farm v) ∧ farm.modes.mode = .off ∧ farm.planner.build = none ∧ farm.image.save = none ∧
      farm.tables.commitPending = false ∧
      farm.fleet.populated 20 = true ∧ farm.fleet.place 21 = some (5, 0) ∧ (farm.fleet.row 5).arrivalRef = some 21 ∧
      farm.fleet.place 20 = some (2, 0) ∧ (farm.fleet.row 2).arrivalRef ≠ some 20 ∧ farm.fleet.populated 22 = false ∧
      ({ farm.fleet with rows := ⟨[]⟩ } : Fleet).place 20 = none :=
  ⟨handed rfl, ⟨_, modesSettled_settleModes rfl⟩, by decide⟩

theorem witness_SetRowReplacesTheRow :
    (∀ c u, farm.handsOver c hd u farm) ∧ (∃ v, modesSettled farm v) ∧ farm.modes.mode = .off ∧ farm.planner.build = none ∧ farm.image.save = none ∧
      farm.tables.commitPending = false ∧
      (2 < 16 ∧ [20].length ≤ 32 ∧ [20].Nodup ∧ (∀ m ∈ [20], m < 256 ∧ farm.fleet.populated m = true) ∧
        (∀ c ∈ farm.fleet.rows.cells, c.1 ≠ 2 → ∀ m ∈ [20], m ∉ c.2.members)) ∧
      (∀ x, some 20 = some x → x ∈ [20]) ∧ ¬ (15 < 16 ∧ [20, 20].Nodup) :=
  ⟨handed rfl, ⟨_, modesSettled_settleModes rfl⟩, by decide, by decide, by decide, by decide, by decide, by simp, by decide⟩

theorem witness_ReferenceAndCorrectionAreSet :
    (∀ c u, farm.handsOver c hd u farm) ∧
      (20 < 256 ∧ farm.fleet.populated 20 = true ∧ (-300 : Int) ≤ -300 ∧ (300 : Int) ≤ 300 ∧ 2048 ≤ 2048 ∧ 4096 ≤ 4096) ∧
      farm.fleet.populated 255 = false ∧ ¬ (301 : Int) ≤ 300 :=
  ⟨handed rfl, by decide⟩

theorem witness_GeometryNeedsOffAndIdle :
    (∀ c u, (inMode .dry).handsOver c hd u (inMode .dry)) ∧ (inMode .dry).modes.mode ≠ .off ∧
      (∀ c u, (building .off .preview).handsOver c hd u (building .off .preview)) ∧
      (building .off .preview).modes.mode = .off ∧ (building .off .preview).planner.build ≠ none ∧
      (∀ c u, saving.handsOver c hd u saving) ∧ saving.modes.mode = .off ∧ saving.image.save ≠ none ∧
      (∀ c u, (refilling false true).handsOver c hd u (refilling false true)) ∧
      (refilling false true).modes.mode = .off ∧ (refilling false true).tables.commitPending = true :=
  ⟨handed rfl, by decide, handed rfl, by decide, by decide, handed rfl, by decide, by decide, handed rfl, by decide⟩

theorem witness_EveryStepKeepsEstimateInRange :
    estimateInRange (inMode .live) ∧
      ∃ t, step { inMode .live with pending := [.referenceSample ⟨21, 100, some 25, some 104, -12, 3931⟩] } = .next t :=
  ⟨by unfold estimateInRange; decide, _, rfl⟩

theorem witness_ReferenceSampleMovesTheEstimate :
    (farm.powered = true ∧ estimateInRange farm ∧ farm.wind.valid = false ∧ min 400 ((2 * (10 * 4096) + 4096) / 8192) = 10 ∧
        min 400 ((2 * (9 * 4096) + 4096) / 8192) = 9) ∧
      ((inMode .live).powered = true ∧ estimateInRange (inMode .live) ∧ (inMode .live).wind.valid = true ∧
        (inMode .live).wind.speed ≤ 100 ∧ 95 < (inMode .live).wind.speed) ∧
      (∀ x : Int, x = (inMode .live).wind.params.outlierLimit ∨ x = (inMode .live).wind.params.outlierLimit + 1 →
        -1799 ≤ x ∧ x ≤ 1800 ∧ (x - ((((3590 + x.natAbs) % 3600 : Nat) : Int) - (inMode .live).wind.direction)) % 3600 = 0) ∧
      ((inMode .live).wind.outlierRun < 7 ∧ { (inMode .live).wind with outlierRun := 6 }.outlierRun < 7 ∧
        { (inMode .live).wind with outlierRun := 7 }.outlierRun = 7) := by
  refine ⟨⟨rfl, by unfold estimateInRange; decide, by decide⟩, ⟨rfl, by unfold estimateInRange; decide, by decide⟩, ?_, by decide⟩
  rintro x (rfl | rfl) <;> decide

/-- The part after a reference sample of direction and speed has been taken: the candidates and the dwell of each clause. -/
def sampled (m : Mode) (direction speed : Nat) (steered : Option Pair) (dwell : Option DwellPair) : State :=
  let s := inMode m
  run1 (.referenceSample ⟨21, 100, some direction, some speed, 0, 4096⟩)
    { s with gate := { s.gate with steered := steered }, wind := { s.wind with dwellPair := dwell } }

theorem witness_ReferenceSampleMovesTheEstimate_after :
    ((sampled .live 3590 96 none none).wind.candidateSector = some 0 ∧ inSteering (inMode .live).wind.modeIn ∧
        (sampled .live 3590 96 none none).wind.candidateBand = some 4 ∧
        (sampled .live 3590 96 none none).wind.dwellTimer.isSome = true) ∧
      (sampled .live 3590 96 (some ⟨0, 4⟩) (some ⟨⟨0, 4⟩, false⟩)).wind.dwellTimer = none ∧
      (sampled .live 3590 96 none (some ⟨⟨0, 4⟩, true⟩)).wind.dwellPair = some ⟨⟨0, 4⟩, true⟩ ∧
      ¬ inSteering (inMode .unwind).wind.modeIn ∧ (sampled .unwind 3590 96 none none).wind.dwellTimer = some 105 := by
  refine ⟨⟨by decide, by unfold inSteering; decide, by decide, by decide⟩, by decide, by decide, ?_, by decide⟩
  unfold inSteering; decide

theorem witness_EstimatorTakesTimersAndModes :
    ((inMode .live).powered = true ∧ (inMode .live).wind.freshness = some 110 ∧ (inMode .live).wind.dwellTimer = some 105 ∧
        (inMode .live).wind.dwellPair = some ⟨⟨0, 4⟩, false⟩) ∧
      (farm.powered = true ∧ farm.wind.valid = false) ∧
      ((inMode .live).wind.valid = true ∧ (inMode .live).wind.candidateSector = some 0 ∧
        (inMode .live).wind.candidateBand = some 4) := by decide

theorem witness_EstimatorTakesTimersAndModes_order :
    (∀ m c, inPlace modeToEstimator c (inMode m).reports) ∧
      ∃ s : State, ∃ first mid, s.powered = true ∧
        standsAhead (.estimatorModeChange .off) s.reports (first ++ .estimatorModeChange .live :: mid) ∧
        ∀ y ∈ first, modeToEstimator y = false :=
  ⟨fun _ c => inPlace_of_none (by simp [inMode, farm, State.reset]) c,
    { inMode .off with reports := [.roomEvent, .estimatorModeChange .live, .roomEvent, .estimatorModeChange .off] },
    [.roomEvent], [.roomEvent], rfl, ⟨by decide, Or.inr ⟨[], rfl⟩⟩, by decide⟩

theorem witness_SetSectorsRequantizes :
    (∀ c u, (inMode .off).handsOver c hd u (inMode .off)) ∧ (∃ v, modesSettled (inMode .off) v) ∧
      (inMode .off).modes.mode = .off ∧ (inMode .off).planner.build = none ∧ (inMode .off).image.save = none ∧ (inMode .off).tables.commitPending = false ∧
      (36 = 12 ∨ 36 = 24 ∨ 36 = 36) ∧
      (35 ≠ 12 ∧ 35 ≠ 24 ∧ 35 ≠ 36) :=
  ⟨handed rfl, ⟨_, modesSettled_settleModes rfl⟩, by decide⟩

theorem witness_WriteOffsetsStoreTheRun :
    (∀ r p c u, (refilling r p).handsOver c hd u (refilling r p)) ∧ (refilling true true).tables.refill ≠ none ∧
      ((refilling false true).tables.refill = none ∧ (refilling false true).tables.commitPending = true) ∧
      ((refilling false false).tables.refill = none ∧ (refilling false false).tables.commitPending = false) ∧
      (23 < (refilling false false).wind.params.sectors ∧ 7 < 8 ∧ 3 < 4 ∧ 63 < 64 ∧ 128 ≤ 128) ∧
      (List.replicate 128 (-301 : Int)).length = 128 ∧ ¬ 24 < (refilling false false).wind.params.sectors :=
  ⟨fun r p => by cases r <;> cases p <;> exact handed rfl, by decide, by decide, by decide, by decide,
    List.length_replicate, by decide⟩

theorem witness_WriteSectorReplacesTheRecord :
    (∀ r p c u, (refilling r p).handsOver c hd u (refilling r p)) ∧ (refilling true true).tables.refill ≠ none ∧
      ((refilling false true).tables.refill = none ∧ (refilling false true).tables.commitPending = true) ∧
      ((refilling false false).tables.refill = none ∧ (refilling false false).tables.commitPending = false) ∧
      (23 < (refilling false false).wind.params.sectors ∧ (∀ r ∈ [15, 0], r ≤ 15) ∧ [3000].length + 1 = [15, 0].length ∧
        ∀ y ∈ [3000], 100 ≤ y ∧ y ≤ 3000) ∧ ¬ (∀ y ∈ [99], 100 ≤ y ∧ y ≤ 3000) :=
  ⟨fun r p => by cases r <;> cases p <;> exact handed rfl, by decide⟩

/-- A farm without turbines whose shadow sectors are all empty, and one whose farm and shadow agree in all twelve sectors. -/
def committing (good : Bool) : State :=
  { farm with
    wind := { farm.wind with params := { farm.wind.params with sectors := 12 } }
    tables := { farm.tables with bankB := { Bank.zeroed with sectors :=
      if good then ⟨(List.range 12).map fun k => (k, ⟨[2, 5], [840]⟩)⟩ else ⟨[]⟩ } } }

theorem witness_CommitValidatesAndSwaps :
    (∀ r p c u, (refilling r p).handsOver c hd u (refilling r p)) ∧ (refilling true true).tables.refill ≠ none ∧
      (refilling false true).tables.refill = none ∧ (refilling false true).tables.commitPending = true ∧
      (∀ g c u, (committing g).handsOver c hd u (committing g)) ∧ (committing false).tables.commitPending = false ∧
      (committing false).tables.refill = none ∧ (committing true).tables.commitPending = false ∧
      ((∀ j, j < 0 → sectorValid (committing false) (((committing false).tables.bank (committing false).tables.shadow).sector j)) ∧
        ¬ sectorValid (committing false) (((committing false).tables.bank (committing false).tables.shadow).sector 0)) := by
  refine ⟨fun r p => by cases r <;> cases p <;> exact handed rfl, by decide, by decide, by decide,
    fun g => by cases g <;> exact handed rfl, by decide, by decide, by decide, by simp, ?_⟩
  intro h
  exact h.1 rfl

theorem witness_CommitValidatesAndSwaps_valid :
    ∀ k, k < (committing true).wind.params.sectors →
      sectorValid (committing true) (((committing true).tables.bank (committing true).tables.shadow).sector k) := by
  have hs : ∀ k < 12, ((committing true).tables.bank (committing true).tables.shadow).sector k = ⟨[2, 5], [840]⟩ := by
    decide
  have hr : ∀ r < 16, ((committing true).fleet.row r).members ≠ [] → r = 2 ∨ r = 5 := by decide
  intro k hk
  rw [hs k hk]
  refine ⟨by decide, by decide, fun r => ⟨fun h => ?_, fun h => ?_⟩, by decide, by decide⟩
  · have : r = 2 ∨ r = 5 := by simpa using h
    rcases this with rfl | rfl <;> decide
  · simpa using hr r h.1 h.2

theorem witness_ReportsSwapAndRefillCopies :
    (refilling false true).powered = true ∧ (refilling false true).tables.commitPending = true ∧
      (refilling true false).tables.refill = some ⟨some (true, 90)⟩ ∧
      { farm.tables with refill := some ⟨none⟩ }.refill = some ⟨none⟩ := by decide

theorem witness_ReportsSwapAndRefillCopies_order :
    (∀ r before, standsAhead (.swapConditionReport r) farm.reports before → ¬ standsBehind r before) ∧
      (∃ s : State, ∃ first mid, s.powered = true ∧
        standsAhead (.swapConditionReport (.plannerBuilding false)) s.reports
          (first ++ .swapConditionReport (.planInstalled true) :: mid) ∧
        (∀ y, .swapConditionReport (.planInstalled y) ∉ first) ∧
        standsBehind (.plannerBuilding false) (first ++ .swapConditionReport (.planInstalled true) :: mid)) ∧
      (∃ s : State, ∃ first mid, s.powered = true ∧
        standsAhead (.swapConditionReport (.planInstalled false)) s.reports
          (first ++ .swapConditionReport (.planInstalled true) :: mid) ∧
        (∀ y, .swapConditionReport (.planInstalled y) ∉ first) ∧
        standsBehind (.planInstalled false) (first ++ .swapConditionReport (.planInstalled true) :: mid)) := by
  refine ⟨?_,
    ⟨{ farm with reports := [.roomEvent, .swapConditionReport (.planInstalled true), .roomEvent,
      .swapConditionReport (.plannerBuilding false)] }, [.roomEvent], [.roomEvent], rfl, ⟨by decide, Or.inr ⟨[], rfl⟩⟩,
      by decide, Or.inr ⟨rfl, by decide⟩⟩,
    ⟨{ farm with reports := [.swapConditionReport (.planInstalled true)] },
      [], [], rfl, ⟨by decide, Or.inl rfl⟩, by decide, Or.inl ⟨⟨false, rfl⟩, true, by decide⟩⟩⟩
  rintro r before ⟨_, h | ⟨after, h⟩⟩
  · rw [← h]
    simp [standsBehind, farm, State.reset]
  · simp [farm, State.reset] at h

theorem witness_TriggersAreLatchedAndBuilt :
    (inMode .live).powered = true ∧
      (∀ m, m = .live ∨ m = .dry → ∀ q : Planner, q = { (inMode m).planner with latch := some ⟨35, 7⟩ } →
        q.latch = some ⟨35, 7⟩ ∧ q.build = none ∧ inSteering q.modeIn ∧ q.holdIn = false ∧ q.commitIn = false) ∧
      (inMode .live).planner.latch = none ∧ ¬ inSteering (inMode .off).planner.modeIn ∧
      (∀ m : Mode, m = .live ∨ m = .dry → ∃ (s : State) (q : Planner), s.powered = true ∧ s.planner.modeIn = .off ∧
        inPlace modeToPlanner (.plannerModeChange m) s.reports ∧
        q = { s.planner with modeIn := m } ∧ q.latch = some ⟨0, 4⟩ ∧ q.build = none ∧ inSteering q.modeIn ∧
        q.holdIn = false ∧ q.commitIn = false) := by
  refine ⟨rfl, ?_, rfl, by unfold inSteering; decide, fun m hm =>
    ⟨{ inMode .off with planner := { (inMode .off).planner with latch := some ⟨0, 4⟩ } }, _, rfl, rfl,
      inPlace_of_none (by simp [inMode, farm, State.reset]) _, rfl, rfl, rfl, hm, rfl, rfl⟩⟩
  rintro m hm q rfl
  rcases hm with rfl | rfl <;> exact ⟨rfl, rfl, by unfold inSteering; decide, rfl, rfl⟩

/-- A plan has ended LATE, the report of its completion waiting behind the report of a release. -/
def ending : State :=
  { monitoring (.decided .late) with reports := [.releaseReport 3 1, .roomEvent, .completionReport 3] }

theorem witness_TriggersAreLatchedAndBuilt_settled :
    (∃ n, Instr.completionReport n ∈ ending.reports) ∧ trimsSettled ending ending.settleTrims ∧
      ending.settleTrims.monitor.trim 0 = 65 ∧ ending.settleTrims.reports = [.roomEvent] ∧
      (∀ n, Instr.completionReport n ∉ (inMode .live).reports) ∧ trimsSettled (inMode .live) (inMode .live) :=
  ⟨⟨3, by decide⟩, trimsSettled_settleTrims rfl, by decide, by decide, by simp [inMode, farm, State.reset],
    trimsSettled_settleTrims (s := inMode .live) rfl⟩

theorem witness_PreviewStartsABuild_settled :
    (∀ c u, ending.handsOver c hd u ending) ∧ ending.planner.build = none ∧ ending.modes.mode ≠ .unwind ∧
      ending.planner.commitIn = false ∧ ending.tables.valid = true :=
  ⟨handed rfl, rfl, by decide, rfl, rfl⟩

theorem witness_PlannerAbandonsOnModeReport :
    (∀ m k, (building m k).powered = true ∧ ∃ b, (building m k).planner.build = some b ∧ b.kind = k) ∧
      (inMode .live).planner.build = none ∧
      { (building .dry .preview).dispatcher with plannerLate := some hd }.plannerLate = some hd :=
  ⟨fun _ _ => ⟨rfl, _, rfl, rfl⟩, rfl, rfl⟩

theorem witness_PlannerAbandonsOnModeReport_order :
    (∀ m k c, inPlace modeToPlanner c (building m k).reports) ∧
      ∃ s : State, ∃ first mid, s.powered = true ∧
        standsAhead (.plannerModeChange .off) s.reports (first ++ .plannerModeChange .live :: mid) ∧
        ∀ y ∈ first, modeToPlanner y = false :=
  ⟨fun _ _ c => inPlace_of_none (by simp [building, inMode, farm, State.reset]) c,
    { inMode .off with reports := [.roomEvent, .plannerModeChange .live, .roomEvent, .plannerModeChange .off] },
    [.roomEvent], [.roomEvent], rfl, ⟨by decide, Or.inr ⟨[], rfl⟩⟩, by decide⟩

theorem witness_PlannerAbandonsOnModeReport_latch :
    leaving.planner.latch = some ⟨0, 4⟩ ∧
      (∀ c, c = .plannerModeChange .off ∨ c = .setRow hd (some ⟨2, [20], none⟩) ∨ c = .resetAssertion →
        (run1 c leaving).planner.latch = none) ∧
      (run1 (.commitStateReport false) leaving).planner.build.map (·.pair) = some ⟨0, 4⟩ ∧
      (run1 (.setRow hd (some ⟨2, [21], none⟩)) leaving).planner.latch = some ⟨0, 4⟩ ∧
      ∃ s t : State, s.line.sPort.transmission = some ⟨[], true⟩ ∧ s.planner.latch = some ⟨0, 4⟩ ∧
        exec (.transmissionEnd .sPort) s = .next t := by
  refine ⟨rfl, ?_, by decide, by decide, { restarting with planner := leaving.planner }, _, rfl, rfl, rfl⟩
  rintro c (rfl | rfl | rfl) <;> decide

theorem witness_PreviewStartsABuild :
    (∀ m k c u, (building m k).handsOver c hd u (building m k)) ∧ (building .off .preview).planner.build ≠ none ∧
      (∀ m c u, (inMode m).handsOver c hd u (inMode m)) ∧ (inMode .unwind).planner.build = none ∧
      (inMode .unwind).modes.mode = .unwind ∧ (inMode .off).modes.mode ≠ .unwind ∧
      (inMode .off).wind.params.sectors ≤ 24 ∧ 23 < (inMode .off).wind.params.sectors ∧
      (inMode .off).planner.commitIn = false ∧ (inMode .off).tables.valid = true ∧ farm.tables.valid = false ∧
      (∀ c u, { farm with planner := { farm.planner with commitIn := true } }.handsOver c hd u
        { farm with planner := { farm.planner with commitIn := true } }) :=
  ⟨fun _ _ => handed rfl, by decide, fun _ => handed rfl, by decide, by decide, by decide, by decide, by decide, by decide,
    by decide, by decide, handed rfl⟩

theorem witness_PreviewCompletesAndIsRead :
    (∃ s : State, ∃ b, s.powered = true ∧ s.planner.latch = none ∧ s.planner.build = some b ∧ b.kind = .preview ∧
        s.dispatcher.plannerLate = some hd) ∧
      (∀ m k c u, (building m k).handsOver c hd u (building m k)) ∧ (∀ c u, farm.handsOver c hd u farm) ∧
      farm.planner.build = none ∧ farm.planner.preview = none ∧
      ∃ s : State, (∀ c u, s.handsOver c hd u s) ∧ s.planner.build = none ∧ ∃ p w, s.planner.preview = some p ∧
        p.waves[0]? = some w ∧ p.waves[1]? = none :=
  ⟨⟨{ building .dry .preview with dispatcher := { farm.dispatcher with plannerLate := some hd } }, _, rfl, rfl, rfl, rfl, rfl⟩,
    fun _ _ => handed rfl, handed rfl, rfl, rfl,
    { farm with planner := { farm.planner with preview := some ⟨⟨0, 4⟩, 96, 64, [⟨2, 0, none, []⟩], 90⟩ } }, handed rfl, rfl,
    _, _, rfl, rfl, rfl⟩

/-- A preview about to complete, a pair latched. -/
def previewing (m : Mode) (hold : Bool) : State :=
  let s := building m .preview
  { s with
    planner := { s.planner with latch := some ⟨0, 4⟩, holdIn := hold }
    dispatcher := { s.dispatcher with plannerLate := some hd } }

theorem witness_PreviewCompletesAndIsRead_latched :
    (∀ m h, (previewing m h).powered = true ∧ (previewing m h).planner.latch = some ⟨0, 4⟩ ∧
        (previewing m h).planner.commitIn = false ∧ (previewing m h).planner.holdIn = h ∧
        (previewing m h).dispatcher.plannerLate = some hd ∧ (∃ b, (previewing m h).planner.build = some b ∧ b.kind = .preview)) ∧
      inSteering (previewing .live false).planner.modeIn ∧ ¬ inSteering (previewing .off false).planner.modeIn ∧
      ((run1 .previewCompletion (previewing .live false)).planner.build.map (·.kind)) = some .retarget ∧
      (run1 .previewCompletion (previewing .live true)).planner.build = none :=
  ⟨fun _ _ => ⟨rfl, rfl, rfl, rfl, rfl, _, rfl, rfl⟩, Or.inl rfl, by unfold inSteering; decide, by decide,
    by decide⟩

theorem witness_PlanParamsAndRetarget :
    (∀ m c u, (inMode m).handsOver c hd u (inMode m)) ∧ (∀ m k c u, (building m k).handsOver c hd u (building m k)) ∧
      (building .live .retarget).planner.build ≠ none ∧ (inMode .live).planner.build = none ∧
      (inMode .live).modes.mode ≠ .off ∧ ¬ inSteering (inMode .unwind).modes.mode ∧ inSteering (inMode .dry).modes.mode ∧
      ((inMode .dry).wind.valid = true ∧ (inMode .dry).wind.candidateSector = some 0 ∧
        (inMode .dry).wind.candidateBand = some 4) ∧
      { (inMode .dry).wind with valid := false }.valid = false := by
  refine ⟨fun _ => handed rfl, fun _ _ => handed rfl, by decide, rfl, by decide, ?_, ?_, by decide, rfl⟩ <;>
    (unfold inSteering; decide)

theorem witness_ScheduleGapsStayInRange :
    (30 ≤ 900 ∧ [3000].length + 1 = [2, 5].length) ∧ ((schedule ⟨400, 32, 30, 900, 20, 250⟩ ⟨[2, 5], [3000]⟩)[1]? ≠ none) := by
  decide

theorem witness_SegmentsReachTheTarget : 0 < 1 ∧ 0 < ((-140 - 25 : Int).natAbs + 60 - 1) / 60 := by decide

/-- A build whose install supersedes plan 3, records 6 and 7 waiting; `one` leaves its sector a single row. -/
def replacing (one : Bool) : State :=
  let s := building .live .retarget
  { s with
    tables := { s.tables with bankA := if one then { bank with sectors := ⟨[(0, ⟨[2], []⟩)]⟩ } else bank }
    gate := { s.gate with
      installed := some plan, planCounter := 3, recordCounter := 7, normalQueue := [6]
      ring := [{ record .ready with sequence := 6 }, record .pending] } }

theorem witness_InstallReplacesThePlan :
    (∀ one, ∃ b, (replacing one).powered = true ∧ (replacing one).planner.build = some b ∧ b.kind = .retarget ∧
        (replacing one).entryTaken = none ∧
        (replacing one).planner.latch = none ∧ (replacing one).gate.installed = some plan ∧
        (replacing one).gate.recordCounter + 512 ≤ 4294967295 ∧ ∀ r ∈ (replacing one).gate.ring, r.plan ≠ 4) ∧
      (schedule ⟨96, 64, 30, 600, 40, 250⟩ ((replacing true).tables.activeBank.sector 0)).length = 1 ∧
      2 ≤ (schedule ⟨96, 64, 30, 600, 40, 250⟩ ((replacing false).tables.activeBank.sector 0)).length ∧
      (∀ b, (replacing false).planner.build = some b → b.pair.sector < (replacing false).wind.params.sectors) ∧
      (∃ s : State, ∃ b, s.planner.build = some b ∧ b.kind = .retarget ∧ ¬ b.pair.sector < s.wind.params.sectors ∧
        s.powered = true ∧ s.entryTaken = none) ∧
      ((replacing true).fleet.dynamic 20).availability ≠ .fault ∧
      (((replacing true).fleet.failureReported 20).dynamic 20).availability = .fault ∧
      ({ building .live .retarget with
        gate := { (building .live .retarget).gate with modeIn := .off }, reports := [.gateModeChange .live] } : State).entryTaken =
          none ∧
      ∃ s : State, s.planner.latch = some ⟨1, 3⟩ ∧ inSteering s.planner.modeIn ∧ s.planner.holdIn = false ∧
        s.planner.commitIn = false ∧ s.planner.build = (replacing false).planner.build := by
  refine ⟨fun one => ⟨_, rfl, rfl, rfl, rfl, rfl, rfl, ?_⟩, by decide, by decide, fun b hb => ?_,
    ⟨{ building .live .retarget with planner := { (building .live .retarget).planner with
      build := some ⟨.retarget, ⟨24, 4⟩, ⟨96, 64, 30, 600, 40, 250⟩⟩ } }, _, rfl, rfl, by decide, rfl, rfl⟩,
    by decide, by decide, by decide, { replacing false with planner := { (replacing false).planner with latch := some ⟨1, 3⟩ } }, rfl, Or.inl rfl, rfl,
    rfl, rfl⟩
  · cases one <;> decide
  · cases hb
    decide

theorem witness_InstallReplacesThePlan_ring : ringOrdered (building .live .retarget) := by
  refine ⟨by decide, by decide, by decide, ?_, ?_⟩
  · intro r h; exact absurd h (by simp [building, inMode, farm, State.reset, Gate.factory])
  · intro i a b h; exact absurd h (by simp [building, inMode, farm, State.reset, Gate.factory])

theorem witness_InstallReplacesThePlan_replaced : ringOrdered (replacing false) := by
  refine ⟨by decide, by decide, by decide, ?_, ?_⟩
  · intro r h
    have : record .pending = r := by simpa [replacing] using h
    rw [← this]; decide
  · intro i a b ha hb
    match i with
    | 0 =>
      have h1 : { record .ready with sequence := 6 } = a := by simpa [replacing] using ha
      have h2 : record .pending = b := by simpa [replacing] using hb
      rw [← h1, ← h2]; decide
    | k + 1 => simp [replacing] at hb

/-- The install of `replacing` with a pair latched, hold in effect for the Planner or not, a completion report under way. -/
def relatching (held : Bool) : State :=
  let s := replacing false
  { s with
    planner := { s.planner with latch := some ⟨1, 3⟩, holdIn := held }
    monitor := (monitoring (.decided .late)).monitor
    reports := [.completionReport 3] }

theorem witness_InstallReplacesThePlan_latched :
    (∀ held, (relatching held).powered = true ∧ (relatching held).entryTaken = none ∧
        (relatching held).planner.latch = some ⟨1, 3⟩ ∧ inSteering (relatching held).planner.modeIn ∧
        (relatching held).planner.holdIn = held ∧ (relatching held).planner.commitIn = false) ∧
      (run1 .install (relatching true)).planner.latch = some ⟨1, 3⟩ ∧
      (run1 .install (relatching true)).reports.length = 4 ∧
      (run1 .install (relatching false)).planner.build =
        some ⟨.retarget, ⟨1, 3⟩, ⟨96, 64, 30, 600, 40, 250⟩⟩ ∧
      (run1 .install (relatching false)).monitor.trim 0 = 65 ∧
      (run1 .install (relatching false)).tables.plannerBuilding = true :=
  ⟨fun held => by cases held <;> exact ⟨rfl, by decide, rfl, Or.inl rfl, rfl, rfl⟩, by decide, by decide, by decide,
    by decide, by decide⟩

theorem witness_InstallAfterEntryIsAborted :
    ∀ m, m = .off ∨ m = .unwind → ∃ b, (building m .retarget).powered = true ∧
      (building m .retarget).planner.build = some b ∧ b.kind = .retarget ∧ (building m .retarget).planner.latch = none ∧
      (building m .retarget).entryTaken = some m ∧
      2 ≤ (schedule b.inputs (if b.pair.sector < (building m .retarget).wind.params.sectors then
        (building m .retarget).tables.activeBank.sector b.pair.sector else .zeroed)).length := by
  rintro m (rfl | rfl)
  · exact ⟨_, rfl, rfl, rfl, rfl, by decide, by decide⟩
  · exact ⟨_, rfl, rfl, rfl, rfl, by decide, by decide⟩

theorem witness_InstallAfterEntryIsAborted_latched :
    ∀ held, ∃ s : State, s = { relatching held with reports := [.plannerModeChange .off, .plannerModeChange .live] } ∧
      s.entryTaken = some .off ∧ s.planner.latch = some ⟨1, 3⟩ ∧ inSteering s.planner.modeIn ∧ s.planner.holdIn = held ∧
      s.planner.commitIn = false :=
  fun held => ⟨_, rfl, by cases held <;> decide, rfl, Or.inl rfl, rfl, rfl⟩

theorem witness_InstallAfterEntryIsAborted_passed :
    ({ building .live .retarget with
        reports := [.plannerModeChange .unwind, .plannerModeChange .off, .plannerModeChange .live] } : State).entryTaken =
      some .unwind ∧
    ({ building .off .retarget with reports := [.plannerModeChange .off, .gateModeChange .live,
        .plannerModeChange .live] } : State).entryTaken = some .off ∧
    (∃ s : State, s.entryTaken = some .off ∧ s.gate.installed = some plan ∧ ringOrdered (replacing false) ∧
      s.gate.ring = (replacing false).gate.ring ∧ s.gate.recordCounter + 2 ≤ 4294967295) :=
  ⟨by decide, by decide, { replacing false with reports := [.plannerModeChange .off, .plannerModeChange .live] }, by decide,
    rfl, witness_InstallReplacesThePlan_replaced, rfl, by decide⟩

theorem witness_WaveReleaseMakesRecordsReady :
    ∃ w, (steeringWith .live .pending [] []).powered = true ∧
      (steeringWith .live .pending [] []).gate.installed = some plan ∧ plan.waves[plan.nextWave]? = some w ∧
      plan.nextWave + 1 < plan.waves.length ∧ (steeringWith .live .pending [] []).gate.hold = false ∧
      ((steeringWith .live .pending [] []).gate.ring.map (·.sequence)).Nodup ∧ w.sequences = [7] :=
  ⟨_, rfl, rfl, rfl, by decide, rfl, by decide, rfl⟩

/-- The plan before its last wave, or all its waves released, its record in a state. -/
def lastWave (next : Nat) (state : RecordState) (hold : Bool) : State :=
  let s := steeringWith .live state [] [flight .own false]
  { s with gate := { s.gate with installed := some { plan with nextWave := next, planTime := 199 }, requestHold := hold } }

theorem witness_WaveReleaseMakesRecordsReady_last :
    (∀ st, (lastWave 2 st false).powered = true ∧
        ∃ p w, (lastWave 2 st false).gate.installed = some p ∧ p.waves[p.nextWave]? = some w ∧ p.planTime < w.offset ∧
          (lastWave 2 st false).gate.hold = false ∧ p.nextWave + 1 = p.waves.length) ∧
      (∃ p w, (lastWave 1 .pending true).gate.installed = some p ∧ p.waves[p.nextWave]? = some w ∧ w.offset ≤ p.planTime ∧
        (lastWave 1 .pending true).gate.hold = true) ∧
      (∀ st, ((lastWave 2 st false).gate.ring.map (·.sequence)).Nodup) ∧
      (∃ r ∈ (lastWave 2 .inFlight false).gate.ring, r.cls = .normal ∧ r.plan = 3 ∧ r.state.finished = false) ∧
      (∀ r ∈ (lastWave 2 .settled false).gate.ring, r.cls = .normal → r.plan = 3 → r.state.finished = true) :=
  ⟨fun _ => ⟨rfl, _, _, rfl, rfl, by decide, rfl, rfl⟩, ⟨_, _, rfl, rfl, by decide, rfl⟩,
    fun st => by cases st <;> decide, by decide, by decide⟩

theorem witness_ScanGrantsTheRecord :
    ∀ m, m = .live ∨ m = .dry ∨ m = .unwind →
      (steeringWith m .ready [7] []).powered = true ∧ (steeringWith m .ready [7] []).gate.scanDue = true ∧
      (steeringWith m .ready [7] []).gate.record 7 = some (record .ready) ∧ (record .ready).sequence = 7 ∧
      ((steeringWith m .ready [7] []).fleet.dynamic 20).availability = .online ∧
      ((steeringWith m .ready [7] []).fleet.dynamic 20).yaw ≠ some .locked ∧
      ((steeringWith m .ready [7] []).fleet.dynamic 20).yaw ≠ some .fault ∧
      (steeringWith m .ready [7] []).gate.flightOf 20 = none ∧
      ((steeringWith m .ready [7] []).gate.urgentQueue = [] ∧ (steeringWith m .ready [7] []).gate.normalQueue = [7] ∧
        (record .ready).cls = .normal ∧ (steeringWith m .ready [7] []).gate.hold = false ∧
        (steeringWith m .ready [7] []).gate.installed = some plan ∧
        (steeringWith m .ready [7] []).gate.flights.length <
          (steeringWith m .ready [7] []).gate.budgets.getD plan.pair.band 0) ∧
      (steeringWith m .ready [7] []).line.injections.length < 32 ∧ (steeringWith m .ready [7] []).gate.modeIn = m ∧
      (steeringWith m .ready [7] []).upkeep.modeIn = m ∧
      ((steeringWith m .ready [7] []).fleet.static 20).address = some 1020 ∧
      (steeringWith m .ready [7] []).line.modeIn ≠ .off ∧
      (steeringWith m .ready [7] []).line.fPort.transmission.isSome = true := by
  rintro m (rfl | rfl | rfl) <;> decide

theorem witness_ScanGrantsTheRecord_urgent :
    ∃ s : State, s.powered = true ∧ s.gate.scanDue = true ∧
      s.gate.record 7 = some { record .ready with cls := .urgent, wave := none, target := 0 } ∧
      s.gate.urgentQueue = [7] ∧ s.gate.normalQueue = [] ∧ s.gate.flights.length < s.gate.urgentBudget ∧
      s.gate.flightOf 20 = none ∧ (s.fleet.dynamic 20).availability = .online ∧ inSending s.gate.modeIn :=
  ⟨{ steeringWith .unwind .ready [] [] with
      gate := { (steeringWith .unwind .ready [] []).gate with
        urgentQueue := [7], ring := [{ record .ready with cls := .urgent, wave := none, target := 0 }] } },
    rfl, rfl, rfl, rfl, rfl, by decide, rfl, rfl, by unfold inSending; decide⟩

/-- The plan's record waits, its wave granted before or not, the F-port idle or not. -/
def granting (granted idling : Bool) : State :=
  let s := steeringWith .live .ready [7] []
  let s := { s with gate := { s.gate with
    installed := some { plan with waves := plan.waves.map fun w => { w with firstGranted := granted } } } }
  if idling then idle s else s

theorem witness_ScanGrantsTheRecord_first :
    ∀ g i, (granting g i).powered = true ∧ (granting g i).gate.scanDue = true ∧
      (granting g i).gate.record 7 = some (record .ready) ∧ (record .ready).wave = some 1 ∧
      (∃ p w, (granting g i).gate.installed = some p ∧ p.waves[1]? = some w ∧ w.firstGranted = g) ∧
      (granting g i).line.fPort.transmission.isSome = !i := by
  intro g i
  cases g <;> cases i <;> exact ⟨rfl, rfl, rfl, rfl, ⟨_, _, rfl, rfl, rfl⟩, rfl⟩

theorem witness_ScanGrantsTheRecord_idle :
    inSending (granting false true).gate.modeIn ∧ inSending (granting false true).upkeep.modeIn ∧
      ((granting false true).fleet.static 20).address = some 1020 ∧ (granting false true).line.modeIn ≠ .off ∧
      ((granting false true).line.port .fPort).transmission = none ∧
      (run1 .arbiterScan (granting false true)).reports = [.roomEvent, .watchArming 3 1] ∧
      (run1 .arbiterScan (granting false true)).line.injections = [] := by
  refine ⟨Or.inl rfl, Or.inl rfl, by decide, by decide, by decide, by decide, by decide⟩

/-- The record waits and its turbine is in some availability and yaw state. -/
def scanning (a : Availability) (y : YawState) : State :=
  let s := steeringWith .live .ready [7] []
  { s with fleet := s.fleet.setDynamic 20 { s.fleet.dynamic 20 with availability := a, yaw := some y } }

theorem witness_ScanSkipsOrPassesOver :
    (∀ a y, (scanning a y).powered = true ∧ (scanning a y).gate.scanDue = true ∧ (scanning a y).gate.urgentQueue = [] ∧
        (scanning a y).gate.normalQueue = [7] ∧ (scanning a y).gate.record 7 = some (record .ready) ∧
        (record .ready).sequence = 7 ∧ (record .ready).cls = .normal ∧
        ((scanning a y).fleet.dynamic 20).availability = a ∧ ((scanning a y).fleet.dynamic 20).yaw = some y) ∧
      (steeringWith .live .ready [7] [flight .superseded false]).gate.flightOf 20 ≠ none ∧
      { (steeringWith .live .ready [7] []).gate with requestHold := true }.hold = true ∧
      { (steeringWith .live .ready [7] []).gate with budgets := [1, 1, 1, 1, 0, 1, 1, 1] }.budgets.getD plan.pair.band 0 ≤
        (steeringWith .live .ready [7] []).gate.flights.length ∧
      (inSending (injecting 32).gate.modeIn ∧ 32 ≤ (injecting 32).line.injections.length) := by
  refine ⟨fun a y => by cases a <;> cases y <;> decide, by decide, by decide, by decide, ?_, by decide⟩
  unfold inSending; decide

/-- Records wait in both queues, or in the normal one, before an injection queue of some depth. -/
def queueing (urgent normal : List Nat) (n : Nat) : State :=
  let s := injecting n
  { s with gate := { s.gate with
    installed := some plan, urgentQueue := urgent, normalQueue := normal, scanDue := true
    ring := [record .ready, { record .ready with sequence := 8, turbine := 21 },
      { record .ready with sequence := 9, turbine := 21, cls := .urgent, wave := none, target := 0 }] } }

theorem witness_ScanSkipsOrPassesOver_queues :
    (∀ u q n, (queueing u q n).powered = true ∧ (queueing u q n).gate.scanDue = true ∧ (queueing u q n).gate.urgentQueue = u ∧
        (queueing u q n).gate.normalQueue = q ∧ inSending (queueing u q n).gate.modeIn) ∧
      ((9 : Nat) ∉ ([] : List Nat) ∧ (9 : Nat) ∉ [7, 8] ∧ (7 : Nat) ∉ [8]) ∧
      ((queueing [9] [7, 8] 32).gate.record 9 =
          some { record .ready with sequence := 9, turbine := 21, cls := .urgent, wave := none, target := 0 } ∧
        ((queueing [9] [7, 8] 32).fleet.dynamic 21).availability = .online ∧
        ((queueing [9] [7, 8] 32).fleet.dynamic 21).yaw = some .idle ∧ (queueing [9] [7, 8] 32).gate.flightOf 21 = none ∧
        (queueing [9] [7, 8] 32).gate.flights.length < (queueing [9] [7, 8] 32).gate.urgentBudget ∧
        32 ≤ (queueing [9] [7, 8] 32).line.injections.length) ∧
      ¬ 32 ≤ (queueing [9] [7, 8] 31).line.injections.length ∧
      ((run1 .arbiterScan (queueing [9] [7, 8] 31)).gate.urgentQueue = [] ∧
        (run1 .arbiterScan (queueing [9] [7, 8] 31)).gate.normalQueue = [7, 8]) := by
  refine ⟨fun u q n => ⟨rfl, rfl, rfl, rfl, Or.inl rfl⟩, by decide, by decide, by decide, by decide, by decide⟩

/-- The last record of a plan whose waves are all released waits, or an URGENT one, its turbine STALE. -/
def skipping (urgent : Bool) : State :=
  let s := scanning .stale .idle
  { s with gate := { s.gate with
    installed := some { plan with nextWave := 3 }, urgentQueue := if urgent then [7] else []
    normalQueue := if urgent then [] else [7]
    ring := [if urgent then { record .ready with cls := .urgent, wave := none } else record .ready] } }

theorem witness_ScanSkipsOrPassesOver_finish :
    ((skipping false).gate.record 7 = some (record .ready) ∧ (skipping false).gate.normalQueue = [7] ∧
        (skipping false).gate.urgentQueue = [] ∧ (skipping false).gate.installed = some { plan with nextWave := 3 } ∧
        plan.number = (record .ready).plan ∧ plan.waves.length ≤ 3 ∧
        ∀ x ∈ (skipping false).gate.ring, x.cls = .normal → x.plan = 3 → x.sequence ≠ 7 → x.state.finished = true) ∧
      ((skipping true).gate.urgentQueue = [7] ∧ (skipping true).gate.normalQueue = [] ∧
        (skipping true).gate.record 7 = some { record .ready with cls := .urgent, wave := none } ∧
        ((skipping true).fleet.dynamic 20).availability = .stale ∧
        ¬ ∃ x ∈ (skipping true).gate.ring, x.cls = .urgent ∧ x.sequence ≠ 7 ∧ x.state.finished = false) := by decide

theorem witness_SegmentsSettleOrFail :
    (∀ f, (steeringWith .live .inFlight [] [flight f false]).powered = true ∧
        (steeringWith .live .inFlight [] [flight f false]).gate.flightOf 20 = some (flight f false) ∧
        (steeringWith .live .inFlight [] [flight f false]).gate.record 7 = some (record .inFlight) ∧
        inSending (steeringWith .live .inFlight [] [flight f false]).gate.modeIn) ∧
      ((30 : Int) - clamp (-250) 250 (0 + 25)).natAbs ≤ factoryPlanParams.settleTol ∧
      factoryPlanParams.settleTol < ((31 : Int) - clamp (-250) 250 (0 + 25)).natAbs ∧
      (steeringWith .live .inFlight [] [flight .own false]).gate.component 20 ≠ (record .inFlight).target ∧
      { record .inFlight with target := 25 }.target =
        (steeringWith .live .inFlight [] [flight .own false]).gate.component 20 ∧
      (flight .own true).simulated = true ∧ (flight .own false).simulated = false ∧
      ¬ inSending (steeringWith .dry .inFlight [] [flight .own true]).gate.modeIn ∧
      { factoryPlanParams with failureLimit := 1 }.failureLimit ≤ plan.failures + 1 := by
  refine ⟨fun f => ⟨rfl, rfl, rfl, Or.inl rfl⟩, by decide, by decide, by decide, by decide, rfl, rfl, ?_,
    by decide⟩
  unfold inSending; decide

theorem witness_SegmentsSettleOrFail_unused :
    (steeringWith .live .inFlight [] [flight .own false]).powered = true ∧
      ∀ f ∈ (steeringWith .live .inFlight [] [flight .own false]).gate.flights, f.turbine ≠ 21 := by decide

theorem witness_SegmentsSettleOrFail_completing :
    ∃ p, (lastWave 3 .inFlight false).gate.installed = some p ∧ p.number = (record .inFlight).plan ∧
      (record .inFlight).cls = .normal ∧ p.waves.length ≤ p.nextWave ∧
      (∀ x ∈ (lastWave 3 .inFlight false).gate.ring, x.cls = .normal → x.plan = p.number → x.sequence ≠ 7 →
        x.state.finished = true) ∧
      p.failures + 1 < { factoryPlanParams with failureLimit := 2 }.failureLimit ∧
      (lastWave 3 .inFlight false).gate.flightOf 20 = some (flight .own false) ∧
      (lastWave 3 .inFlight false).gate.record 7 = some (record .inFlight) ∧
      { plan with nextWave := 2 }.nextWave < plan.waves.length :=
  ⟨_, rfl, rfl, rfl, by decide, by decide, by decide, rfl, rfl, by decide⟩

/-- An URGENT segment in flight, its record at its target, and another URGENT record unfinished or none. -/
def urgentFlying (other : Bool) : State :=
  let s := steeringWith .unwind .inFlight [] [flight .urgent false]
  { s with gate := { s.gate with ring :=
    { record .inFlight with cls := .urgent, wave := none, target := 25 } ::
      if other then [{ record .ready with sequence := 8, turbine := 21, cls := .urgent, wave := none }] else [] } }

theorem witness_SegmentsSettleOrFail_urgent :
    (∀ o, (urgentFlying o).powered = true ∧ (urgentFlying o).gate.flightOf 20 = some (flight .urgent false) ∧
        (urgentFlying o).gate.record 7 = some { record .inFlight with cls := .urgent, wave := none, target := 25 } ∧
        (urgentFlying o).gate.component 20 = 25 ∧ inSending (urgentFlying o).gate.modeIn) ∧
      (∃ x ∈ (urgentFlying true).gate.ring, x.cls = .urgent ∧ x.sequence ≠ 7 ∧ x.state.finished = false) ∧
      ¬ ∃ x ∈ (urgentFlying false).gate.ring, x.cls = .urgent ∧ x.sequence ≠ 7 ∧ x.state.finished = false :=
  ⟨fun o => ⟨rfl, rfl, rfl, rfl, Or.inr rfl⟩, by decide, by decide⟩

/-- One failure short of the limit, a second segment of the plan flying and a record of it READY. -/
def atLimit : State :=
  let s := steeringWith .live .inFlight [8] [flight .own false, { flight .own false with turbine := 21, record := 9 }]
  { s with
    planner := { s.planner with params := { s.planner.params with failureLimit := 1 } }
    gate := { s.gate with ring := [record .inFlight, { record .ready with sequence := 8, turbine := 21 },
      { record .inFlight with sequence := 9, turbine := 21 }] } }

theorem witness_SegmentsSettleOrFail_limit :
    (atLimit.powered = true ∧ atLimit.gate.flightOf 20 = some (flight .own false) ∧
        atLimit.gate.record 7 = some (record .inFlight) ∧ inSending atLimit.gate.modeIn) ∧
      atLimit.gate.installed = some plan ∧ atLimit.planner.params.failureLimit ≤ plan.failures + 1 ∧
      (run1 (.segmentSample 20 .fault 0) atLimit).gate.flights.map (·.fate) = [.aborted] ∧
      (run1 (.segmentSample 20 .fault 0) atLimit).gate.ring.map (·.state) = [.failed, .cancelled, .inFlight] :=
  ⟨⟨rfl, rfl, rfl, Or.inl rfl⟩, rfl, by decide, by decide, by decide⟩

/-- The installed plan, or none, under some settings of the two hold sources. -/
def holding (request line : Bool) (p : Option Plan) : State :=
  let s := inMode .live
  { s with gate := { s.gate with requestHold := request, lineHold := line, installed := p } }

theorem witness_HoldHasTwoSources :
    (∀ r l p c u, (holding r l p).handsOver c hd u (holding r l p)) ∧
      (∀ r l p, (holding r l p).powered = true ∧ (holding r l p).gate.requestHold = r ∧ (holding r l p).gate.lineHold = l ∧
        (holding r l p).gate.hold = (r || l) ∧ (holding r l p).gate.installed = p) :=
  ⟨fun _ _ _ => handed rfl, fun _ _ _ => ⟨rfl, rfl, rfl, rfl, rfl⟩⟩

theorem witness_UnwindEntryCreatesUrgentRecords :
    (steeringWith .live .ready [7] []).powered = true ∧ ringOrdered (steeringWith .live .ready [7] []) ∧
      (steeringWith .live .ready [7] []).gate.recordCounter + 256 ≤ 4294967295 ∧
      (List.range 256).filter (fun i => (steeringWith .live .ready [7] []).gate.component i != 0) = [20] ∧
      (steeringWith .live .ready [7] []).gate.installed = some plan ∧
      (building .live .retarget).gate.installed = none := by
  refine ⟨rfl, ⟨by decide, by decide, by decide, ?_, ?_⟩, by decide, by decide +kernel, rfl, rfl⟩
  · intro r h
    have : record .ready = r := by simpa [steeringWith] using h
    rw [← this]; decide
  · intro i a b _ h
    simp [steeringWith] at h

theorem witness_OffEntryCancelsEverything :
    (steeringWith .live .ready [7] []).powered = true ∧ (steeringWith .live .ready [7] []).gate.installed = some plan ∧
      farm.gate.installed = none ∧
      (steeringWith .live .ready [7] []).gate.ring.countP (fun r => decide (r.cls = .urgent ∧ r.state.finished = false)) = 0 ∧
      (urgentFlying true).gate.ring.countP (fun r => decide (r.cls = .urgent ∧ r.state.finished = false)) = 2 :=
  ⟨rfl, rfl, rfl, by decide, by decide⟩

theorem witness_EveryStepKeepsSlotsBounded :
    slotsBounded (steeringWith .live .ready [7] []) ∧
      ∃ t, step { steeringWith .live .ready [7] [] with pending := [.arbiterScan] } = .next t :=
  ⟨by unfold slotsBounded; decide, _, rfl⟩

theorem witness_RefreshIsSubmittedOrWaits :
    (∀ n, (injecting n).powered = true ∧ ((injecting n).fleet.static 20).address = some 1020 ∧
        (injecting n).line.modeIn ≠ .off ∧ (injecting n).line.fPort.transmission.isSome = true ∧
        inSending (injecting n).upkeep.modeIn ∧ (injecting n).upkeep.waitList = []) ∧
      (injecting 31).line.injections.length < 32 ∧ 32 ≤ (injecting 32).line.injections.length ∧
      { (injecting 31).upkeep with refresh := ⟨[(20, some 115)]⟩ }.refresh.get none 20 = some 115 ∧
      { (injecting 31).upkeep with waitList := [20] }.waitList = [20] ∧ ¬ inSending (inMode .dry).upkeep.modeIn := by
  refine ⟨fun n => ⟨rfl, rfl, by simp [injecting, inMode], rfl, by simp [inSending, injecting, inMode], rfl⟩, by decide,
    by decide, by decide, rfl, by unfold inSending; decide⟩

/-- Refreshes of both turbines wait before an injection queue of some depth. -/
def refreshing (n : Nat) : State :=
  let s := injecting n
  { s with upkeep := { s.upkeep with waitList := [21, 20] } }

theorem witness_RefreshIsSubmittedOrWaits_several :
    (∀ n, (refreshing n).powered = true ∧ inSending (refreshing n).upkeep.modeIn ∧ (refreshing n).line.modeIn ≠ .off ∧
        (refreshing n).line.fPort.transmission.isSome = true ∧ (refreshing n).upkeep.waitList = [21, 20] ∧
        (refreshing n).upkeep.waitList.Nodup ∧ ∀ j ∈ (refreshing n).upkeep.waitList, ((refreshing n).fleet.static j).address ≠ none) ∧
      min (32 - (refreshing 30).line.injections.length) 2 = 2 ∧ min (32 - (refreshing 31).line.injections.length) 2 = 1 ∧
      min (32 - (refreshing 32).line.injections.length) 2 = 0 ∧
      (run1 .roomEvent (refreshing 31)).upkeep.waitList = [20] ∧ (run1 .roomEvent (refreshing 30)).upkeep.waitList = [] := by
  refine ⟨fun n => ⟨rfl, Or.inl rfl, by simp [refreshing, injecting, inMode], rfl, rfl, ?_, ?_⟩, by decide, by decide, by decide,
    by decide, by decide⟩
  · show [21, 20].Nodup
    decide
  · show ∀ j ∈ [21, 20], (farm.fleet.static j).address ≠ none
    decide

theorem witness_RefreshIsSubmittedOrWaits_idle :
    (∀ n, ((idle (refreshing n)).line.port .fPort).transmission = none ∧ (idle (refreshing n)).upkeep.waitList = 21 :: [20] ∧
        inSending (idle (refreshing n)).upkeep.modeIn ∧ ((idle (refreshing n)).fleet.static 21).address = some 1021 ∧
        (idle (refreshing n)).line.modeIn ≠ .off) ∧
      (idle (refreshing 31)).line.injections.length < 32 ∧ ¬ (idle (refreshing 32)).line.injections.length < 32 ∧
      { (idle (refreshing 0)).upkeep with refresh := ⟨[(20, some 115)]⟩ }.refresh.get none 20 = some 115 ∧
      (run1 .roomEvent (idle (refreshing 0))).line.injections.length = 1 ∧
      (run1 .roomEvent (idle (refreshing 0))).reports = [.roomEvent] :=
  ⟨fun _ => ⟨rfl, rfl, Or.inl rfl, rfl, by simp [idle, refreshing, injecting, inMode]⟩, by decide, by decide, by decide,
    by decide, by decide⟩

/-- The F-port paused with an idle transmitter, the injection queue full and a refresh due (R141). -/
def pausedFull : State :=
  let s := idle (refreshing 32)
  { s with
    line := { s.line with fPort := { s.line.fPort with paused := some 100 } }
    upkeep := { s.upkeep with refresh := ⟨[(20, some 115)]⟩ } }

theorem witness_RefreshIsSubmittedOrWaits_paused :
    pausedFull.powered = true ∧ pausedFull.upkeep.refresh.get none 20 = some 115 ∧
      32 ≤ pausedFull.line.injections.length ∧ pausedFull.line.fPort.transmission = none ∧
      pausedFull.line.fPort.paused ≠ none ∧ inSending pausedFull.upkeep.modeIn ∧
      (run1 (.refreshExpiry 20) pausedFull).upkeep.waitList = [21, 20, 20] ∧
      (run1 .roomEvent pausedFull).upkeep = pausedFull.upkeep :=
  ⟨rfl, by decide, by decide, rfl, by decide, Or.inl rfl, by decide, by decide⟩

theorem witness_MonitorTakesInstallAndRelease :
    (monitoring .armed).powered = true ∧ (monitoring .armed).monitor.plan = some ⟨3, ⟨0, 4⟩, 64⟩ ∧
      (⟨4, ⟨0, 4⟩, 64, [⟨2, none⟩, ⟨5, some 84⟩], some 3⟩ : InstallInfo).superseded = some 3 ∧
      (monitoring .armed).monitor.modeIn = .live ∧ farm.monitor.modeIn ≠ .live := by decide

theorem witness_MonitorTakesInstallAndRelease_order :
    (∀ st c, inPlace gateToMonitor c (monitoring st).reports) ∧
      ∃ s : State, ∃ first mid, s.powered = true ∧ gateToMonitor (.releaseReport 3 1) = true ∧
        standsAhead (.releaseReport 3 1) s.reports (first ++ .completionReport 3 :: mid) ∧
        gateToMonitor (.completionReport 3) = true ∧ ∀ y ∈ first, gateToMonitor y = false :=
  ⟨fun st c => inPlace_of_none (by simp [monitoring, inMode, farm, State.reset]) c,
    { farm with reports := [.arrivalMonitorModeChange .live, .completionReport 3, .abortReport 4, .releaseReport 3 1] },
    [.arrivalMonitorModeChange .live], [.abortReport 4], rfl, rfl, ⟨by decide, Or.inr ⟨[], rfl⟩⟩, rfl, by decide⟩

theorem witness_WatchesArmJudgeAndExpire :
    (∀ st, (monitoring st).powered = true ∧ (monitoring st).monitor.plan = some ⟨3, ⟨0, 4⟩, 64⟩ ∧
        (∀ c, inPlace gateToMonitor c (monitoring st).reports) ∧ (monitoring st).monitor.plan ≠ none ∧
        (monitoring st).monitor.watches[0]? = some (watch st) ∧
        (monitoring st).monitor.watches.find? (fun w => w.index == 1) = some (watch st)) ∧
      (watch .waiting).state = .waiting ∧ (monitoring .waiting).fleet.baseline (watch .waiting) = 800 ∧
      (watch .armed).window = some 268 ∧ (watch .armed).threshold = some 862 ∧ (watch .armed).armed = some 100 ∧
      (861 < 862 ∧ 862 ≤ 862 ∧ 100 ≤ 184) := by
  refine ⟨fun st => ⟨rfl, rfl, witness_MonitorTakesInstallAndRelease_order.1 st, by simp [monitoring], rfl, rfl⟩, by decide⟩

theorem witness_WatchesArmJudgeAndExpire_unmonitored :
    ((monitoring .waiting).powered = true ∧ (∀ c, inPlace gateToMonitor c (monitoring .waiting).reports) ∧
        ∀ p, (monitoring .waiting).monitor.plan = some p → p.number ≠ 2) ∧
      (farm.powered = true ∧ farm.monitor.plan = none) := by
  refine ⟨⟨rfl, witness_MonitorTakesInstallAndRelease_order.1 _, fun p hp => ?_⟩, rfl, rfl⟩
  cases hp
  decide

theorem witness_MonitoredPlanEndsWithItsVote_unmonitored :
    (monitoring .armed).powered = true ∧ (∀ c, inPlace gateToMonitor c (monitoring .armed).reports) ∧
      ∀ p, (monitoring .armed).monitor.plan = some p → p.number ≠ 4 := by
  refine ⟨rfl, witness_MonitorTakesInstallAndRelease_order.1 _, fun p hp => ?_⟩
  cases hp
  decide

theorem witness_MonitoredPlanEndsWithItsVote :
    (monitoring .armed).powered = true ∧ (monitoring .armed).monitor.plan = some ⟨3, ⟨0, 4⟩, 64⟩ ∧
      (monitoring .armed).monitor.learning = true ∧ { (monitoring .armed).monitor with learning := false }.learning = false ∧
      (¬ (monitoring .armed).wind.params.sectors ≤ 23 ∧ (monitoring .armed).wind.params.sectors ≤ 24) ∧
      ∀ c, inPlace gateToMonitor c (monitoring .armed).reports :=
  ⟨rfl, rfl, rfl, rfl, by decide, witness_MonitorTakesInstallAndRelease_order.1 _⟩

theorem witness_ModeRequestsChangeTheMode :
    (∀ m c u, (inMode m).handsOver c hd u (inMode m) ∧ (inMode m).modes.mode = m ∧ (inMode m).tables.valid = true) ∧
      (∀ c u, farm.handsOver c hd u farm) ∧ farm.tables.valid = false ∧
      (∀ c u, unwinding.handsOver c hd u unwinding) ∧ unwinding.modes.mode = .unwind ∧
      unwinding.modes.unwindRecord = some ⟨.inProgress, 90, none, 3, 2, 1, 0, 0, 0⟩ ∧
      (∃ s : State, (∀ c u, s.handsOver c hd u s) ∧ s.modes.mode = .off ∧ s.tables.valid = true ∧
        s.modes.storm.config.enabled = true ∧ s.modes.storm.isActive = true) :=
  ⟨fun _ _ _ => ⟨handed rfl _ _, rfl, rfl⟩, handed rfl, rfl, handed rfl, rfl, rfl,
    { inMode .off with modes := { (inMode .off).modes with storm := ⟨⟨true, .rising⟩, .high, true⟩ } }, handed rfl, rfl, rfl,
    rfl, rfl⟩

theorem witness_LinesFollowTheirLevels :
    (∀ m, (inMode m).powered = true ∧ (inMode m).modes.storm.level ≠ .high ∧ (inMode m).modes.gridhold.level ≠ .high ∧
        (inMode m).modes.storm.isActive = false ∧ (inMode m).modes.storm.config.enabled = true ∧ (inMode m).modes.mode = m) ∧
      (∀ m c u, (inMode m).handsOver c hd u (inMode m)) :=
  ⟨fun m => by cases m <;> decide, fun _ => handed rfl⟩

theorem witness_UnwindIsCountedAndEnds :
    (unwinding.powered = true ∧ unwinding.modes.mode = .unwind ∧
        ∃ r, unwinding.modes.unwindRecord = some r ∧ r.endSecond = none) ∧
      ∃ s : State, ∃ r, s.powered = true ∧ s.modes.mode ≠ .unwind ∧ s.modes.unwindRecord = some r ∧ r.endSecond = some 95 :=
  ⟨⟨rfl, rfl, _, rfl, rfl⟩,
    { inMode .off with modes := { (inMode .off).modes with
        unwindRecord := some ⟨.incomplete, 90, some 95, 3, 2, 1, 0, 0, 1⟩ } }, _, rfl, by decide, rfl, rfl⟩

theorem witness_UnwindIsCountedAndEnds_order :
    (∀ c, inPlace toModes c unwinding.reports) ∧
      ∃ s : State, ∃ first mid, s.powered = true ∧ toModes .unwindEnd = true ∧
        standsAhead .unwindEnd s.reports (first ++ .unwindFigures 9 1 :: mid) ∧ toModes (.unwindFigures 9 1) = true ∧
        ∀ y ∈ first, toModes y = false := by
  exact ⟨fun c => inPlace_of_none (by simp [unwinding, inMode, farm, State.reset]) c,
    { unwinding with reports := [.roomEvent, .unwindFigures 9 1, .urgentFinishReport .failed, .unwindEnd] },
    [.roomEvent], [.urgentFinishReport .failed], rfl, rfl, ⟨by decide, Or.inr ⟨[], rfl⟩⟩, rfl, by decide⟩

/-- A Dispatcher with a destination and some notices pending. -/
def noticing (replies : Nat) (pending : List PendingNotice) : State :=
  let s := replying replies
  { s with dispatcher := { s.dispatcher with destinations := [77, 0, 0, 0], pendingNotices := pending } }

theorem witness_NoticesWaitByClass :
    (farm.powered = true ∧ farm.dispatcher.destinations.getD
        ((composeNotice farm.modes.unwindRecord (.failure 1 1)).cls % farm.dispatcher.fold) 0 = 0) ∧
      (∀ n p, (noticing n p).powered = true ∧ (noticing n p).dispatcher.pendingNotices = p ∧
        (noticing n p).dispatcher.destinations.getD
          ((composeNotice (noticing n p).modes.unwindRecord (.failure 1 1)).cls % (noticing n p).dispatcher.fold) 0 ≠ 0 ∧
        (noticing n p).line.sPort.paused = none ∧ (noticing n p).dispatcher.held = [] ∧
        (noticing n p).line.sPort.transmission.isSome = true) ∧
      (∃ x ∈ [(⟨(composeNotice none (.failure 1 1)).cls, 0, [], false⟩ : PendingNotice)],
        x.cls = (composeNotice none (.failure 1 1)).cls) ∧
      (noticing 0 []).line.replies = [] ∧ (noticing 1 []).line.replies ≠ [] := by
  refine ⟨by decide, fun n p => ⟨rfl, rfl, ?_, rfl, rfl, rfl⟩, by simp, rfl, by decide⟩
  show (77 : Nat) ≠ 0
  decide

theorem witness_NoticesWaitByClass_idle :
    (idle (noticing 0 [])).powered = true ∧ ((idle (noticing 0 [])).line.port .sPort).transmission = none ∧
      (∀ x ∈ (idle (noticing 0 [])).dispatcher.pendingNotices, x.cls ≠ (composeNotice none (.failure 1 1)).cls) ∧
      (idle (noticing 0 [])).dispatcher.destinations.getD
        ((composeNotice none (.failure 1 1)).cls % (idle (noticing 0 [])).dispatcher.fold) 0 = 77 ∧
      (run1 (.noticeEntry (.failure 1 1)) (idle (noticing 0 []))).line.sPort.transmission.isSome = true ∧
      (run1 (.noticeEntry (.failure 1 1)) (idle (noticing 0 []))).line.replies = [] :=
  ⟨rfl, rfl, by simp [idle, noticing], rfl, by decide, by decide⟩

theorem witness_SetLinkTakesEffectWithItsReply :
    (∀ n c u, (replying n).handsOver c hd u (replying n)) ∧ (replying 0).modes.mode ≠ .off ∧
      (replying 0).line.typeValue = 0xA7C2 ∧ (∀ c u, farm.handsOver c hd u farm) ∧ farm.modes.mode = .off ∧
      (replying 7).line.replies.length < 8 ∧ 8 ≤ (replying 8).line.replies.length ∧
      (replying 7).line.sPort.transmission.isSome = true ∧
      ((∀ c u, (idle (replying 7)).handsOver c hd u (idle (replying 7))) ∧ (idle (replying 7)).line.replies.length < 8) ∧
      (1 ≤ 65534 ∧ 0x0600 ≤ 0x0600 ∧ 0x0600 ≠ 0x8808) ∧ ¬ (65535 ≤ 65534) ∧ ¬ (0x8808 ≠ 0x8808) :=
  ⟨fun _ => handed rfl, by decide, by decide, handed rfl, by decide, by decide, by decide, by decide, ⟨handed rfl, by decide⟩,
    by decide⟩

/-- The part in reset, an image in its memory or none. -/
def unpowered (b : Option ImageBlock) : State :=
  { farm with powered := false, image := { farm.image with memory := b } }

theorem witness_StartUpLoadsAValidImage :
    (∀ b, (unpowered b).powered = false ∧ (unpowered b).image.memory = b) ∧
      (∃ b : ImageBlock, b.mark ≠ Config.imageMark) ∧
      (∃ b : ImageBlock, b.mark = Config.imageMark ∧ b.format ≠ Config.imageFormat) ∧
      (∃ b : ImageBlock, b.mark = Config.imageMark ∧ b.format = Config.imageFormat ∧ b.crc ≠ crc32 b.bytes) ∧
      (∃ b : ImageBlock, b.mark = Config.imageMark ∧ b.format = Config.imageFormat ∧ b.crc = crc32 b.bytes ∧
        b.content.contentOk = false) ∧
      (∃ b : ImageBlock, b.mark = Config.imageMark ∧ b.format = Config.imageFormat ∧ b.crc = crc32 b.bytes ∧
        b.content = (inMode .off).imageContent ∧ b.content.contentOk = true) ∧
      saving.image.save ≠ none ∧ farm.image.save = none ∧ farm.powered = true :=
  ⟨fun _ => ⟨rfl, rfl⟩, ⟨⟨0#8 :: Config.imageMark, [], (inMode .off).imageContent, 0#32⟩, by simp⟩,
    ⟨⟨Config.imageMark, 0#8 :: Config.imageFormat, (inMode .off).imageContent, 0#32⟩, rfl, by simp⟩,
    ⟨tornBlock none (inMode .off).imageContent, rfl, rfl, mismatched_ne _ _⟩,
    ⟨writtenBlock { (inMode .off).imageContent with node := 0 }, rfl, rfl, rfl, by decide⟩,
    ⟨writtenBlock (inMode .off).imageContent, rfl, rfl, rfl, rfl, by decide⟩, by decide, rfl, rfl⟩

theorem witness_SaveWritesTheContent :
    (∀ c u, farm.handsOver c hd u farm) ∧ farm.image.save = none ∧ (∀ c u, saving.handsOver c hd u saving) ∧
      saving.image.save ≠ none ∧
      (saving.powered = true ∧ saving.dispatcher.imageLate = none) ∧
      ∃ s : State, ∃ i h, s.powered = true ∧ s.image.save = some i ∧ s.dispatcher.imageLate = some h :=
  ⟨handed rfl, rfl, handed rfl, by decide, ⟨rfl, rfl⟩,
    { saving with dispatcher := { saving.dispatcher with imageLate := some hd } }, _, hd, rfl, rfl, rfl⟩

theorem witness_EveryStepKeepsInvariants :
    queuesBounded (inMode .live) ∧ steeringAgrees (inMode .live) ∧ tablesCanonical (inMode .live) ∧
      trimsInRange (inMode .live) ∧ ringOrdered (building .live .retarget) ∧
      ∃ t, step { inMode .live with pending := [.install] } = .next t := by
  refine ⟨by unfold queuesBounded; decide, by unfold steeringAgrees; decide, by unfold tablesCanonical; decide, fun k => ?_,
    witness_InstallReplacesThePlan_ring, _, rfl⟩
  show 32 ≤ 64 ∧ 64 ≤ 128
  decide

/-- Both banks VALID for the farm's twelve sectors, a commit PENDING behind a preview of the last of them, a trigger for it under
way. -/
def agreeing : State :=
  let s := committing true
  { s with
    reports := [.retargetTrigger ⟨11, 4⟩]
    tables := { s.tables with bankA := s.tables.bankB, valid := true, commitPending := true, plannerBuilding := true }
    planner := { s.planner with commitIn := true, build := some ⟨.preview, ⟨11, 4⟩, ⟨96, 64, 30, 600, 40, 250⟩⟩ } }

theorem witness_EveryStepKeepsInvariants_banks :
    banksAgree agreeing ∧ ∃ t, step { agreeing with pending := [.previewCompletion] } = .next t :=
  ⟨⟨fun _ => witness_CommitValidatesAndSwaps_valid, fun _ => ⟨rfl, witness_CommitValidatesAndSwaps_valid⟩⟩, _, rfl⟩

theorem witness_EveryStepKeepsInvariants_builds :
    (∃ s : State, modeReportsMade s ∧ s.pending = [.setRow hd (some ⟨2, [20], none⟩)] ∧ plannerFollows s ∧
        estimatorFollows s ∧ buildsReadValidBank s ∧ s.tables.valid = true ∧ candidatesBelowS s ∧
        s.wind.dwellPair ≠ none ∧ s.planner.latch ≠ none) ∧
      (∃ s : State, modeReportsMade s ∧ s.pending = [.plannerModeChange .off] ∧ plannerFollows s ∧ estimatorFollows s ∧
        buildsReadValidBank s ∧ s.tables.valid = false ∧ candidatesBelowS s) := by
  refine ⟨⟨{ leaving with pending := [.setRow hd (some ⟨2, [20], none⟩)] }, ?_, rfl, rfl, ⟨rfl, fun _ => Or.inl (Or.inl rfl)⟩, ?_,
      rfl, ⟨by decide, by decide, ?_, ?_⟩, by decide, by decide⟩,
    { farm with pending := [.plannerModeChange .off], reports := [.plannerModeChange .off] }, ?_, rfl, rfl,
      ⟨rfl, fun h => absurd rfl h⟩, ?_, rfl, ⟨by decide, by decide, ?_, ?_⟩⟩
  · intro c hc hm
    cases hc
    exact absurd hm (by decide)
  · intro h; exact absurd h (by decide)
  · intro c h; cases h; decide
  · intro d h; cases h; decide
  · intro c hc hm
    cases hc
    decide
  · refine fun _ => ⟨rfl, rfl, by unfold inSteering; decide, ?_⟩
    rintro m (rfl | rfl) <;> decide
  · intro c h; exact absurd h (by simp [farm, State.reset, Wind.factory])
  · intro d h; exact absurd h (by simp [farm, State.reset, Wind.factory])

theorem witness_ResetMeetsInvariants : ringOrdered (building .live .retarget) := witness_InstallReplacesThePlan_ring

end Sys2Proof.Tests
end

/-! PROOFS. The writes of the shadow bank (R70-R72). First what one write and a run of writes leave at each entry of a bank,
then the checks of R70 that WRITE_OFFSETS and WRITE_SECTOR share, and from these the two requests. -/

section
namespace Sys2Proof.Machine

/-! ### Places and slots of the Offset Table -/

/-- Two entries whose band and turbine index are in range have one place only when they are one entry (R67). -/
theorem offsetKey_eq_iff {n m b c t u : Nat} (hb : b < 8) (hc : c < 8) (ht : t < 256) (hu : u < 256) :
    offsetKey n b t = offsetKey m c u ↔ n = m ∧ b = c ∧ t = u := by
  unfold offsetKey
  omega

/-- The entries of one sector and band have different places, whatever the turbine index. -/
theorem offsetKey_turbine_inj {n b t u : Nat} : offsetKey n b t = offsetKey n b u ↔ t = u :=
  Nat.add_left_cancel_iff

/-- A run within one of the four pages stays among the 256 turbine indices (R71). -/
theorem slotTurbine_lt {page : Nat} (hp : page < 4) (start i : Nat) : slotTurbine page start i < 256 := by
  unfold slotTurbine
  omega

/-- Two values of a run go to one turbine exactly when they go to one slot of the page (R71). -/
theorem slotTurbine_eq_iff {page start i j : Nat} :
    slotTurbine page start i = slotTurbine page start j ↔ (start + i) % 64 = (start + j) % 64 :=
  Nat.add_left_cancel_iff

/-! ### What a write leaves in a bank -/

@[simp] theorem Bank.writeOffset_sectors (n b t : Nat) (v : Int) (k : Bank) :
    (k.writeOffset n b t v).sectors = k.sectors := rfl

/-- The entry written holds the saturated value (R71). -/
@[simp] theorem Bank.offset_writeOffset_same (n b t : Nat) (v : Int) (k : Bank) :
    (k.writeOffset n b t v).offset n b t = clamp (-300) 300 v :=
  Table.get_set_same ..

/-- An entry at another place is as before. -/
theorem Bank.offset_writeOffset_other {n b t m c u : Nat} (hne : offsetKey m c u ≠ offsetKey n b t) (v : Int) (k : Bank) :
    (k.writeOffset n b t v).offset m c u = k.offset m c u :=
  Table.get_set_other _ _ hne _

@[simp] theorem Bank.writeSector_offsets (n : Nat) (r : SectorRecord) (k : Bank) :
    (k.writeSector n r).offsets = k.offsets := rfl

/-- The sector record written is the record given (R72). -/
@[simp] theorem Bank.sector_writeSector_same (n : Nat) (r : SectorRecord) (k : Bank) :
    (k.writeSector n r).sector n = r :=
  Table.get_set_same ..

/-- Another sector's record is as before. -/
theorem Bank.sector_writeSector_other {n m : Nat} (hne : m ≠ n) (r : SectorRecord) (k : Bank) :
    (k.writeSector n r).sector m = k.sector m :=
  Table.get_set_other _ _ hne _

/-! ### What a run leaves in a bank -/

@[simp] theorem Bank.writeRun_sectors (n b page start i : Nat) (vs : List Int) (k : Bank) :
    (Bank.writeRun n b page start i vs k).sectors = k.sectors := by
  induction vs generalizing i k with
  | nil => rfl
  | cons v vs ih => rw [Bank.writeRun, ih, Bank.writeOffset_sectors]

/-- An entry at whose place no value of the run goes is as before. -/
theorem Bank.offset_writeRun_other {n b page start m c u : Nat} (vs : List Int) (i : Nat) (k : Bank)
    (hne : ∀ j, j < vs.length → offsetKey m c u ≠ offsetKey n b (slotTurbine page start (i + j))) :
    (Bank.writeRun n b page start i vs k).offset m c u = k.offset m c u := by
  induction vs generalizing i k with
  | nil => rfl
  | cons v vs ih =>
    have hrest : ∀ j, j < vs.length → offsetKey m c u ≠ offsetKey n b (slotTurbine page start (i + 1 + j)) := by
      intro j hj
      rw [Nat.succ_add_eq_add_succ]
      exact hne (j + 1) (Nat.succ_lt_succ hj)
    have hfirst : offsetKey m c u ≠ offsetKey n b (slotTurbine page start i) := hne 0 (Nat.succ_pos _)
    rw [Bank.writeRun, ih _ _ hrest, Bank.offset_writeOffset_other hfirst]

/-- The last value of the run for a slot stands there, saturated (R71): no value after it goes to the same turbine. -/
theorem Bank.offset_writeRun_last {n b page start : Nat} (vs : List Int) (i q : Nat) (k : Bank) (hq : q < vs.length)
    (hlast : ∀ j, q < j → j < vs.length → slotTurbine page start (i + j) ≠ slotTurbine page start (i + q)) :
    (Bank.writeRun n b page start i vs k).offset n b (slotTurbine page start (i + q)) = clamp (-300) 300 (vs.getD q 0) := by
  induction vs generalizing i q k with
  | nil => exact absurd hq (Nat.not_lt_zero _)
  | cons v vs ih =>
    have hshift : ∀ j, i + 1 + j = i + (j + 1) := Nat.succ_add_eq_add_succ i
    cases q with
    | zero =>
      have hother : ∀ j, j < vs.length →
          offsetKey n b (slotTurbine page start i) ≠ offsetKey n b (slotTurbine page start (i + 1 + j)) := by
        intro j hj he
        rw [hshift, offsetKey_turbine_inj] at he
        exact hlast (j + 1) (Nat.succ_pos _) (Nat.succ_lt_succ hj) he.symm
      rw [Bank.writeRun, Nat.add_zero i, Bank.offset_writeRun_other _ _ _ hother, Bank.offset_writeOffset_same,
        List.getD_cons_zero]
    | succ q =>
      have hrest : ∀ j, q < j → j < vs.length →
          slotTurbine page start (i + 1 + j) ≠ slotTurbine page start (i + 1 + q) := by
        intro j hqj hj
        rw [hshift, hshift]
        exact hlast (j + 1) (Nat.succ_lt_succ hqj) (Nat.succ_lt_succ hj)
      rw [Bank.writeRun, ← hshift q, ih _ _ _ (Nat.lt_of_succ_lt_succ hq) hrest, List.getD_cons_succ]

section run
variable {n b page start : Nat} {vs : List Int} (k : Bank)

/-- After a whole run, a slot of the page has the last of the values that go to it, saturated (R71). -/
theorem Bank.offset_run_last {i : Nat} (hi : i < vs.length)
    (hlast : ∀ j, i < j → j < vs.length → (start + j) % 64 ≠ (start + i) % 64) :
    (Bank.writeRun n b page start 0 vs k).offset n b (64 * page + (start + i) % 64) =
      clamp (-300) 300 (vs.getD i 0) := by
  have hstands : ∀ j, i < j → j < vs.length → slotTurbine page start (0 + j) ≠ slotTurbine page start (0 + i) := by
    intro j hij hj
    rw [Nat.zero_add, Nat.zero_add, ne_eq, slotTurbine_eq_iff]
    exact hlast j hij hj
  have hval := Bank.offset_writeRun_last (n := n) (b := b) vs 0 i k hi hstands
  rwa [Nat.zero_add] at hval

/-- After a whole run, an entry of another sector or band, or at a turbine index the run does not reach, is as before (R71). -/
theorem Bank.offset_run_other {m c t : Nat} (hc : c < 8) (hb : b < 8) (hpage : page < 4) (ht : t < 256)
    (hne : m ≠ n ∨ c ≠ b ∨ ∀ i, i < vs.length → t ≠ 64 * page + (start + i) % 64) :
    (Bank.writeRun n b page start 0 vs k).offset m c t = k.offset m c t := by
  refine Bank.offset_writeRun_other vs 0 k fun j hj he => ?_
  obtain ⟨hm, hcb, hslot⟩ := (offsetKey_eq_iff hc hb ht (slotTurbine_lt hpage _ _)).mp he
  rw [Nat.zero_add] at hslot
  rcases hne with hsector | hband | hreach
  · exact hsector hm
  · exact hband hcb
  · exact hreach j hj hslot

end run

/-! ### The checks of R70 -/

theorem within_iff {lo hi x : Nat} : within lo hi x = true ↔ lo ≤ x ∧ x ≤ hi := by
  simp [within]

/-- The conditions of WRITE_OFFSETS as R71 lists them. -/
theorem writeOffsetsOk_iff {sectors : Nat} {x : WriteOffsetsArgs} :
    writeOffsetsOk sectors x = true ↔ x.sector < sectors ∧ x.band < 8 ∧ x.page < 4 ∧ x.start < 64 ∧ 1 ≤ x.count ∧
      x.count ≤ 128 ∧ x.values.length = x.count := by
  simp [writeOffsetsOk, runOk, within_iff, and_assoc]

/-- The conditions of WRITE_SECTOR as R72 lists them. -/
theorem writeSectorOk_iff {sectors : Nat} {x : WriteSectorArgs} :
    writeSectorOk sectors x = true ↔ x.sector < sectors ∧ 1 ≤ x.order.length ∧ x.order.length ≤ 16 ∧
      (∀ r ∈ x.order, r ≤ 15) ∧ x.spacings.length + 1 = x.order.length ∧ ∀ y ∈ x.spacings, 100 ≤ y ∧ y ≤ 3000 := by
  have hrow : ∀ r, r < Config.rows ↔ r ≤ 15 := fun r => Nat.lt_succ_iff
  simp [writeSectorOk, within_iff, hrow, and_assoc]

section tableWrite
variable {α : Type} {ok : α → Bool} {f : α → Bank → Bank} {s : State}

/-- A table write waits for a refill (R70, check 1). -/
theorem State.tableWrite_of_refill (a : Option α) (hr : s.tables.refill ≠ none) : s.tableWrite a ok f = refuse .busy s := by
  simp [State.tableWrite, TableStore.writeRefused, Option.isSome_iff_ne_none.mpr hr]

/-- A table write waits for a pending commit (R70, check 2). -/
theorem State.tableWrite_of_pending (a : Option α) (hr : s.tables.refill = none) (hc : s.tables.commitPending = true) :
    s.tableWrite a ok f = refuse .frozen s := by
  simp [State.tableWrite, TableStore.writeRefused, hr, hc]

/-- A table write that waits for nothing changes the shadow bank alone, where its own conditions hold (R69; R70, check 3). -/
theorem State.tableWrite_of_open (x : α) (hr : s.tables.refill = none) (hc : s.tables.commitPending = false) :
    s.tableWrite (some x) ok f =
      if ok x then
        accept { s with tables := s.tables.setBank s.tables.shadow (f x (s.tables.bank s.tables.shadow)) }
      else refuse .badArg s := by
  simp [State.tableWrite, TableStore.writeRefused, hr, hc, State.onTables, TableStore.onShadow]

end tableWrite

section answers
variable {α : Type} {ok : Nat → α → Bool} {f : α → Bank → Bank} {c : Instr} {h : ReqHead} {s s0 : State} {x : α}

/-- A request that is one table write is answered with what the write gives on the state its unit finds. -/
theorem answers_of_tableWrite
    (he : exec c s = s.atOnce c h unitTable fun s => s.tableWrite (some x) (ok s.wind.params.sectors) f)
    (hs : s.handsOver c h 3 s0) {st : Status} {result : List Byte} {u : State}
    (hw : s0.tableWrite (some x) (ok s0.wind.params.sectors) f = (u, st, result)) : answers c s h 3 st result u := by
  unfold answers
  rw [he, unitTable, State.atOnce_of_handsOver _ hs, hw]

/-- The answers of a table write: BUSY during a refill, FROZEN while a commit is pending, and otherwise OK with the shadow bank
written or BAD_ARG with nothing changed (R70). -/
theorem tableWrite_answers
    (he : exec c s = s.atOnce c h unitTable fun s => s.tableWrite (some x) (ok s.wind.params.sectors) f)
    (hs : s.handsOver c h 3 s0) :
    (s0.tables.refill ≠ none → answers c s h 3 .busy [] s0) ∧
    (s0.tables.refill = none → s0.tables.commitPending = true → answers c s h 3 .frozen [] s0) ∧
    (s0.tables.refill = none → s0.tables.commitPending = false →
      if ok s0.wind.params.sectors x = true then
        answers c s h 3 .ok []
          { s0 with tables := s0.tables.setBank s0.tables.shadow (f x (s0.tables.bank s0.tables.shadow)) }
      else answers c s h 3 .badArg [] s0) := by
  refine ⟨fun hr => ?_, fun hr hc => ?_, fun hr hc => ?_⟩
  · exact answers_of_tableWrite he hs (State.tableWrite_of_refill _ hr)
  · exact answers_of_tableWrite he hs (State.tableWrite_of_pending _ hr hc)
  · split
    · next hok => exact answers_of_tableWrite he hs ((State.tableWrite_of_open x hr hc).trans (if_pos hok))
    · next hok => exact answers_of_tableWrite he hs ((State.tableWrite_of_open x hr hc).trans (if_neg hok))

end answers

/-! ### The two requests -/

theorem exec_writeOffsets (h : ReqHead) (a : Option WriteOffsetsArgs) (s : State) :
    exec (.writeOffsets h a) s = execWriteOffsets h a s := rfl

theorem exec_writeSector (h : ReqHead) (a : Option WriteSectorArgs) (s : State) :
    exec (.writeSector h a) s = execWriteSector h a s := rfl

/-- Settles O27: the checks are those every table write makes, and the bank stored is that of `Bank.writeRun`. -/
theorem writeOffsetsStoreTheRun : Obligations.WriteOffsetsStoreTheRun := by
  intro s s0 h x hs
  obtain ⟨hbusy, hfrozen, hopen⟩ := tableWrite_answers (ok := writeOffsetsOk) (exec_writeOffsets h (some x) s) hs
  refine ⟨hbusy, hfrozen, fun hr hc => ?_⟩
  simp only [writeOffsetsOk_iff] at hopen
  split
  · next hok =>
    have htaken := (if_pos hok).mp (hopen hr hc)
    obtain ⟨-, hband, hpage, -, -, -, hlen⟩ := hok
    rw [← hlen]
    exact ⟨_, htaken, Bank.writeRun_sectors .., fun i hi hlast => Bank.offset_run_last _ hi hlast,
      fun n b t hb ht hne => Bank.offset_run_other _ hb hband hpage ht hne⟩
  · next hok => exact (if_neg hok).mp (hopen hr hc)

/-- Settles O28: the checks are those every table write makes, and the bank stored is that of `Bank.writeSector`. -/
theorem writeSectorReplacesTheRecord : Obligations.WriteSectorReplacesTheRecord := by
  intro s s0 h x hs
  obtain ⟨hbusy, hfrozen, hopen⟩ := tableWrite_answers (ok := writeSectorOk) (exec_writeSector h (some x) s) hs
  refine ⟨hbusy, hfrozen, fun hr hc => ?_⟩
  simp only [writeSectorOk_iff] at hopen
  split
  · next hok =>
    exact ⟨_, (if_pos hok).mp (hopen hr hc), Bank.writeSector_offsets .., Bank.sector_writeSector_same ..,
      fun n hne => Bank.sector_writeSector_other hne _ _⟩
  · next hok => exact (if_neg hok).mp (hopen hr hc)

end Sys2Proof.Machine
end

/-! PROOFS. Hold (R127, R128). First what a start and an end of hold leave, then what setting and clearing each of the two
sources leaves, and from these HOLD, RESUME and the report of the GRIDHOLD line. -/

section
namespace Sys2Proof.Machine

/-! ### A start and an end of hold -/

@[simp] theorem Gate.showPlan_hold (g : Gate) : g.showPlan.hold = g.hold := rfl

@[simp] theorem Gate.showPlan_installed (g : Gate) :
    g.showPlan.installed = g.installed.map fun p => { p with state := p.shown g.hold } := rfl

section holdChanged
variable {s : State}

/-- Where hold is in effect as before, nothing is reported and nothing changes. -/
theorem State.holdChanged_unchanged {was : Bool} (h : s.gate.hold = was) : s.holdChanged was = s := if_pos h

/-- A start of hold is reported; an installed plan shows HELD, which is noticed with the two sources (R127). -/
theorem State.holdChanged_begins (h : s.gate.hold = true) :
    s.holdChanged false = { s with
      gate := { s.gate with installed := s.gate.installed.map fun p => { p with state := .held } }
      reports := s.reports ++ [.holdReport true]
      notices := s.notices ++
        (s.gate.installed.map fun p => .held p.number p.planTime s.gate.requestHold s.gate.lineHold).toList } := by
  simp only [State.holdChanged, h, Bool.true_eq_false, if_false, if_true, State.onGate_gate, State.report_gate,
    Gate.showPlan_hold, Gate.showPlan_installed]
  cases hp : s.gate.installed <;>
    simp [State.onGate, State.report, State.notify, Gate.showPlan, h, hp, Plan.shown]

/-- An end of hold is reported and is a cause for a scan; an installed plan shows the state its waves give it, which is noticed
(R127). -/
theorem State.holdChanged_ends (h : s.gate.hold = false) :
    s.holdChanged true = { s with
      gate := { s.gate with installed := s.gate.installed.map (fun p => { p with state := p.shown false }), scanDue := true }
      reports := s.reports ++ [.holdReport false]
      notices := s.notices ++ (s.gate.installed.map fun p => .resumed p.number p.planTime (p.shown false)).toList } := by
  simp only [State.holdChanged, h, Bool.false_eq_true, if_false, State.onGate_gate, State.report_gate,
    Gate.showPlan_hold, Gate.showPlan_installed]
  cases hp : s.gate.installed <;>
    simp [State.onGate, State.report, State.notify, Gate.showPlan, h, hp]

/-- A change of hold leaves the two sources as they are. -/
theorem State.holdChanged_sources (was : Bool) :
    (s.holdChanged was).gate.requestHold = s.gate.requestHold ∧ (s.holdChanged was).gate.lineHold = s.gate.lineHold := by
  by_cases h : s.gate.hold = was
  · rw [State.holdChanged_unchanged h]
    exact ⟨rfl, rfl⟩
  · cases was with
    | false =>
      rw [State.holdChanged_begins (eq_true_of_ne_false h)]
      exact ⟨rfl, rfl⟩
    | true =>
      rw [State.holdChanged_ends (eq_false_of_ne_true h)]
      exact ⟨rfl, rfl⟩

end holdChanged

/-! ### The two sources set and cleared -/

section sources
variable {s : State} {b : Bool}

/-- Where hold stays as it was, the request hold alone is written. -/
theorem State.setRequestHold_unchanged (h : (b || s.gate.lineHold) = s.gate.hold) :
    s.setRequestHold b = { s with gate := { s.gate with requestHold := b } } :=
  State.holdChanged_unchanged h

/-- Where hold is not in effect, the request hold starts it (R127). -/
theorem State.setRequestHold_begins (h : s.gate.hold = false) :
    s.setRequestHold true = { s with
      gate := { s.gate with
        requestHold := true
        installed := s.gate.installed.map fun p => { p with state := .held } }
      reports := s.reports ++ [.holdReport true]
      notices := s.notices ++ (s.gate.installed.map fun p => .held p.number p.planTime true false).toList } := by
  have hl : s.gate.lineHold = false := (Bool.or_eq_false_iff.mp h).2
  rw [State.setRequestHold, h, State.holdChanged_begins rfl]
  simp only [State.onGate, hl]

/-- Where the request hold is the one source, clearing it ends hold (R127). -/
theorem State.setRequestHold_ends (hr : s.gate.requestHold = true) (hl : s.gate.lineHold = false) :
    s.setRequestHold false = { s with
      gate := { s.gate with
        requestHold := false
        installed := s.gate.installed.map fun p => { p with state := p.shown false }
        scanDue := true }
      reports := s.reports ++ [.holdReport false]
      notices := s.notices ++ (s.gate.installed.map fun p => .resumed p.number p.planTime (p.shown false)).toList } := by
  have hwas : s.gate.hold = true := by rw [Gate.hold, hr, Bool.true_or]
  have hnow : (s.onGate fun g => { g with requestHold := false }).gate.hold = false := hl
  rw [State.setRequestHold, hwas, State.holdChanged_ends hnow]
  rfl

/-- The line hold is written as given, and the request hold is as before (R127). -/
theorem State.setLineHold_sources :
    (s.setLineHold b).gate.lineHold = b ∧ (s.setLineHold b).gate.requestHold = s.gate.requestHold :=
  (State.holdChanged_sources _).symm

/-- Where the request hold is set or the line hold stands as given, the line hold alone is written. -/
theorem State.setLineHold_unchanged (h : s.gate.requestHold = true ∨ s.gate.lineHold = b) :
    s.setLineHold b = { s with gate := { s.gate with lineHold := b } } := by
  refine State.holdChanged_unchanged ?_
  rcases h with hr | hl
  · simp only [State.onGate_gate, Gate.hold, hr, Bool.true_or]
  · simp only [State.onGate_gate, Gate.hold, hl]

/-- Without either source set, the line hold starts hold (R127). -/
theorem State.setLineHold_begins (hr : s.gate.requestHold = false) (hl : s.gate.lineHold = false) :
    s.setLineHold true = { s with
      gate := { s.gate with
        lineHold := true
        installed := s.gate.installed.map fun p => { p with state := .held } }
      reports := s.reports ++ [.holdReport true]
      notices := s.notices ++ (s.gate.installed.map fun p => .held p.number p.planTime false true).toList } := by
  have hwas : s.gate.hold = false := Bool.or_eq_false_iff.mpr ⟨hr, hl⟩
  have hnow : (s.onGate fun g => { g with lineHold := true }).gate.hold = true := Bool.or_true _
  rw [State.setLineHold, hwas, State.holdChanged_begins hnow]
  simp only [State.onGate, hr]

/-- Where the line hold is the one source, clearing it ends hold (R127). -/
theorem State.setLineHold_ends (hr : s.gate.requestHold = false) (hl : s.gate.lineHold = true) :
    s.setLineHold false = { s with
      gate := { s.gate with
        lineHold := false
        installed := s.gate.installed.map fun p => { p with state := p.shown false }
        scanDue := true }
      reports := s.reports ++ [.holdReport false]
      notices := s.notices ++ (s.gate.installed.map fun p => .resumed p.number p.planTime (p.shown false)).toList } := by
  have hwas : s.gate.hold = true := by rw [Gate.hold, hl, Bool.or_true]
  have hnow : (s.onGate fun g => { g with lineHold := false }).gate.hold = false := Bool.or_eq_false_iff.mpr ⟨hr, rfl⟩
  rw [State.setLineHold, hwas, State.holdChanged_ends hnow]
  rfl

end sources

/-! ### The two requests and the report -/

section requests
variable {s s0 : State} {h : ReqHead}

/-- HOLD sets the request hold and is answered OK (R127). -/
theorem hold_answers (hs : s.handsOver (.hold h (some ())) h 5 s0) :
    answers (.hold h (some ())) s h 5 .ok [] (s0.setRequestHold true) :=
  State.atOnce_of_handsOver _ hs

/-- RESUME without a request hold is answered NOT_HELD and changes nothing (R128). -/
theorem resume_answers_notHeld (hs : s.handsOver (.resume h (some ())) h 5 s0) (hr : s0.gate.requestHold = false) :
    answers (.resume h (some ())) s h 5 .notHeld [] s0 := by
  refine (State.atOnce_of_handsOver _ hs).trans ?_
  simp only [hr, Bool.not_false, if_true, refuse]

/-- RESUME clears a request hold that is set and is answered by the line hold (R128). -/
theorem resume_answers_held (hs : s.handsOver (.resume h (some ())) h 5 s0) (hr : s0.gate.requestHold = true) :
    answers (.resume h (some ())) s h 5 (if s0.gate.lineHold then .stillHeld else .ok) [] (s0.setRequestHold false) := by
  refine (State.atOnce_of_handsOver _ hs).trans ?_
  simp only [hr, Bool.not_true, Bool.false_eq_true, if_false]

/-- A powered part takes the report of the GRIDHOLD line and writes the line hold from it (R171, R127). -/
theorem exec_gridholdReport_powered (b : Bool) (hp : s.powered = true) :
    exec (.gridholdReport b) s = .next ((s.arrive (.gridholdReport b)).setLineHold b) :=
  State.reported_powered hp

end requests

/-- Settles O44: each of the three commands writes its source, and what follows is that hold began, ended or stayed as it was. -/
theorem holdHasTwoSources : Obligations.HoldHasTwoSources := by
  refine ⟨fun s s0 h hs => ⟨fun hh => ?_, fun p hh hp => ?_, fun hh hp => ?_⟩,
    fun s s0 h hs => ⟨resume_answers_notHeld hs, fun hr hl => ?_, fun hr hl hp => ?_, fun p st hr hl hp hst => ?_⟩,
    fun s b hpow => ⟨_, exec_gridholdReport_powered b hpow, State.setLineHold_sources.1, State.setLineHold_sources.2,
      State.setLineHold_unchanged (s := s.arrive (.gridholdReport b)), fun hr hl => ?_⟩⟩
  · exact State.setRequestHold_unchanged (b := true) hh.symm ▸ hold_answers hs
  · simpa [State.setRequestHold_begins hh, hp] using hold_answers hs
  · simpa [State.setRequestHold_begins hh, hp] using hold_answers hs
  · have hhold : (false || s0.gate.lineHold) = s0.gate.hold := by simp only [Gate.hold, hr, hl, Bool.or_true]
    simpa [State.setRequestHold_unchanged hhold, hl] using resume_answers_held hs hr
  · simpa [State.setRequestHold_ends hr hl, hl, hp] using resume_answers_held hs hr
  · subst hst
    simpa [State.setRequestHold_ends hr hl, hl, hp, Plan.shown] using resume_answers_held hs hr
  · cases b with
    | true =>
      have hset := State.setLineHold_begins (s := s.arrive (.gridholdReport true)) hr (eq_false_of_ne_true hl)
      rw [hset]
      exact ⟨rfl, fun hb => absurd hb (by decide), fun p hp => by simp [hp]⟩
    | false =>
      have hset := State.setLineHold_ends (s := s.arrive (.gridholdReport false)) hr (eq_true_of_ne_false hl)
      rw [hset]
      exact ⟨rfl, fun _ => rfl, fun p hp => by simp [hp, Plan.shown]⟩

end Sys2Proof.Machine
end

/-! PROOFS. What a step can do. `GateChange` and `Change` list the elementary changes that the commands are made of, each with
the condition under which it is made; every command is a sequence of them (`exec_change`), so that an invariant is proved of the
elementary changes alone. -/

section
namespace Sys2Proof.Machine

/-! ### The elementary changes -/

/-- The queues of the Line Path hold no more than their capacities (R27-R30). -/
def lineBounded (l : LinePath) : Prop :=
  l.s2f.length ≤ 48 ∧ l.f2s.length ≤ 48 ∧ l.injections.length ≤ 32 ∧ l.inbox.length ≤ 8 ∧ l.replies.length ≤ 8

/-- The tables of the farm stand in their canonical form. -/
def fleetCanonical (f : Fleet) : Prop :=
  f.statics.wf .unpopulated = true ∧ f.dynamics.wf .unseen = true ∧ f.rows.wf .empty = true

/-- The tables of Bias Upkeep stand in their canonical form. -/
def upkeepCanonical (u : Upkeep) : Prop := u.controllerBias.wf 0 = true ∧ u.refresh.wf none = true

/-- The tables of a bank stand in their canonical form. -/
def bankCanonical (k : Bank) : Prop := k.offsets.wf 0 = true ∧ k.sectors.wf .zeroed = true

/-- The geometry may change (R14, R63, R79): the mode is OFF, no commit is PENDING, no report of a mode is under way to the
Estimator or the Planner, and no build goes on that the Planner's mode input does not allow. -/
def geometryFree (s : State) : Prop :=
  s.modes.mode = .off ∧ s.tables.commitPending = false ∧ s.reports.filter modeToEither = [] ∧
    (s.planner.build = none ∨ steering s.planner.modeIn = true)

/-- What the Release Gate's operations do to its segments in flight, records, components and budgets. -/
inductive GateChange : Gate → Gate → Prop
  | refl (g : Gate) : GateChange g g
  | trans {g h k : Gate} : GateChange g h → GateChange h k → GateChange g k
  | aux {g h : Gate} (hf : h.flights = g.flights) (hb : h.budgets = g.budgets) (hu : h.urgentBudget = g.urgentBudget)
      (hr : h.ring = g.ring) (hn : h.recordCounter = g.recordCounter) (hc : h.components = g.components) : GateChange g h
  | records (f : MoveRecord → MoveRecord) (hf : ∀ r, (f r).sequence = r.sequence) (g : Gate) :
      GateChange g { g with ring := g.ring.map f }
  | create (r : MoveRecord) (g : Gate) : GateChange g (g.create r)
  | component (t : Nat) (v : Int) (g : Gate) : GateChange g { g with components := g.components.set 0 t v }
  | home (g : Gate) : GateChange g { g with components := ⟨[]⟩ }
  | flights (fs : List Flight) (g : Gate) (h : (fs.map (·.turbine)).Sublist (g.flights.map (·.turbine))) :
      GateChange g { g with flights := fs }
  | grant (f : Flight) (c : MoveClass) (g : Gate) (hb : g.busy f.turbine = false) (hl : g.flights.length < g.budget c) :
      GateChange g { g with flights := g.flights ++ [f] }
  | budgets (bs : List Nat) (u : Nat) (g : Gate) (hb : ∀ b ∈ bs, b ≤ 32) (hu : u ≤ 32) :
      GateChange g { g with budgets := bs, urgentBudget := u }

/-- What the commands do to the part. `made` tells that a report of a mode which the command takes is under way, `plans` that the
command is one that may touch the Planner's latch. -/
inductive Change (made plans : Prop) : State → State → Prop
  | refl (s : State) : Change made plans s s
  | trans {s t u : State} : Change made plans s t → Change made plans t u → Change made plans s u
  | free (c : Nat) (d : Dispatcher) (i : ImageLoader) (ns : List Notice) (s : State) :
      Change made plans s { s with clock := c, dispatcher := d, image := i, notices := ns }
  | line (l : LinePath) (s : State) (h : lineBounded s.line → lineBounded l) : Change made plans s { s with line := l }
  | gate (g : Gate) (s : State) (h : GateChange s.gate g) : Change made plans s { s with gate := g }
  | reports (rs : List Instr) (s : State) (h : rs.filter modeToEither = s.reports.filter modeToEither) :
      Change made plans s { s with reports := rs }
  | dynamic (t : Nat) (d : TurbineDynamic) (s : State) : Change made plans s (s.onFleet (Fleet.setDynamic t d))
  | static (t : Nat) (d : TurbineStatic) (s : State) : Change made plans s (s.onFleet (Fleet.setStatic t d))
  | params (p : WindParams) (s : State) (hs : p.sectors = s.wind.params.sectors)
      (hb : s.wind.params.beta ≤ 255 → p.beta ≤ 255) : Change made plans s { s with wind := { s.wind with params := p } }
  | sample (r : ReferenceArrival) (p : Option Pair) (c : Nat) (s : State) : Change made plans s (s.onWind (Wind.arrival r p c))
  | freshness (s : State) : Change made plans s (s.onWind Wind.freshnessExpired)
  | dwell (s : State) : Change made plans s (s.onWind fun w => { w with dwellTimer := none })
  | spend (p : Pair) (s : State) (h : s.wind.dwellPair.map (·.pair) = some p ∨
      steering s.modes.mode = true ∧ s.wind.candidate = some p) : Change made plans s (s.onWind (Wind.spend p))
  | estimatorTakes (m : Mode) (w : Wind) (rs : List Instr) (s : State)
      (h : made → (s.reports.filterMap estimatorReportOf).head? = some m)
      (hw : w = ((s.arrive (.estimatorModeChange m)).estimatorMode m).wind)
      (hr : rs.filter modeToEither = (s.reports.erase (.estimatorModeChange m)).filter modeToEither) :
      Change made plans s { s with wind := w, reports := rs }
  | plannerTakes (m : Mode) (s : State) (hp : plans) (h : made → (s.reports.filterMap plannerReportOf).head? = some m) :
      Change made plans s ((s.arrive (.plannerModeChange m)).onPlanner fun q => { q with modeIn := m })
  | planner (q : Planner) (s : State) (hm : q.modeIn = s.planner.modeIn) (hl : q.latch = s.planner.latch)
      (hb : q.build = none ∨ q.build = s.planner.build ∨ s.tables.valid = true) :
      Change made plans s { s with planner := q }
  | latch (l : Option Pair) (s : State) (hp : plans) : Change made plans s (s.onPlanner fun q => { q with latch := l })
  | build (b : Build) (s : State) (hp : plans) (hm : steering s.planner.modeIn = true) :
      Change made plans s (s.onPlanner fun q => { q with latch := none, build := some b })
  | inputs (x y z : Bool) (s : State) : Change made plans s { s with
      tables := { s.tables with planInstalled := x, plannerBuilding := y, saveInProgress := z } }
  | cancel (s : State) : Change made plans s (s.onTables fun t => { t with commitPending := false })
  | pend (s : State) (hr : s.tables.refill = none) (hv : s.validate (s.tables.bank s.tables.shadow) = none) :
      Change made plans s (s.onTables fun t => { t with commitPending := true })
  | shadow (f : Bank → Bank) (s : State) (hc : s.tables.commitPending = false)
      (hf : ∀ k, bankCanonical k → bankCanonical (f k)) : Change made plans s (s.onTables (TableStore.onShadow f))
  | refilled (s : State) (h : s.tables.refill ≠ none) :
      Change made plans s (s.onTables fun t => { (t.setBank t.shadow t.activeBank) with refill := none })
  | swap (r : Refill) (s : State)
      (h : s.tables.commitPending = true ∨ s.validate (s.tables.bank s.tables.shadow) = none) :
      Change made plans s (s.onTables fun t => { t with
        active := t.shadow, valid := true, commitPending := false, refill := some r })
  | upkeep (u : Upkeep) (s : State) (h : upkeepCanonical s.upkeep → upkeepCanonical u) :
      Change made plans s { s with upkeep := u }
  | monitor (m : Monitor) (s : State) (h : m.trims = s.monitor.trims) : Change made plans s { s with monitor := m }
  | trim (k v : Nat) (s : State) (h : 32 ≤ s.monitor.trim k ∧ s.monitor.trim k ≤ 128 → 32 ≤ v ∧ v ≤ 128) :
      Change made plans s (s.onMonitor fun m => { m with trims := m.trims.set 64 k v })
  | modes (m : ModeController) (s : State) (hm : m.mode = s.modes.mode) (hs : m.steering = s.modes.steering) :
      Change made plans s { s with modes := m }
  | mode (cause : ModeCause) (next : Mode) (s : State) (hv : steering next = true → s.tables.valid = true)
      (hu : next = .unwind → s.modes.mode = .live) : Change made plans s { s with
        modes := s.modes.enter cause next s.now, reports := s.reports ++ modeReports next }
  | geometry (f : Fleet) (s : State) (h : geometryFree s) (hf : fleetCanonical s.fleet → fleetCanonical f) :
      Change made plans s { s with fleet := f, tables := { s.tables with valid := false } }
  | sectors (n : Nat) (s : State) (h : geometryFree s) (hn : sectorCountOk n = true) :
      Change made plans s { s with wind := s.wind.setSectors n, tables := { s.tables with valid := false } }
  | factory (b : Bool) (x : ImageLoader) (s : State) (hp : plans) :
      Change made plans s { State.reset with powered := b, image := x, pending := s.pending }
  | load (i : Image) (x : ImageLoader) (s : State) (hp : plans) (hi : i.contentOk = true) :
      Change made plans s (({ State.reset with image := x, pending := s.pending }.loadImage i).loadBank i)
  | restart (s : State) (hp : plans) : Change made plans s s.applyRestart

end Sys2Proof.Machine
end

/-! PROOFS. Every command is a sequence of the elementary changes: one lemma per operation of the model, block by block, and from
these `exec_change`. -/

section
namespace Sys2Proof.Machine

variable {made plans : Prop} {s t : State}

/-! ### Chaining -/

namespace Change

theorem report (h : Change made plans s t) {c : Instr} (hc : modeToEither c = false) : Change made plans s (t.report c) :=
  h.trans (.reports _ _ (by simp [List.filter_append, hc]))

theorem notify (h : Change made plans s t) (n : Notice) : Change made plans s (t.notify n) := h.trans (.free _ _ _ _ _)

theorem arrive (h : Change made plans s t) {c : Instr} (hc : modeToEither c = false) : Change made plans s (t.arrive c) :=
  h.trans (.reports _ _ (keepsModeReports_arrive hc t).2)

theorem onGate (h : Change made plans s t) {f : Gate → Gate} (hf : GateChange t.gate (f t.gate)) :
    Change made plans s (t.onGate f) := h.trans (.gate _ _ hf)

theorem onLine (h : Change made plans s t) {f : LinePath → LinePath} (hf : lineBounded t.line → lineBounded (f t.line)) :
    Change made plans s (t.onLine f) := h.trans (.line _ _ hf)

theorem onDispatcher (h : Change made plans s t) (f : Dispatcher → Dispatcher) : Change made plans s (t.onDispatcher f) :=
  h.trans (.free _ _ _ _ _)

theorem onImage (h : Change made plans s t) (f : ImageLoader → ImageLoader) : Change made plans s (t.onImage f) :=
  h.trans (.free _ _ _ _ _)

theorem onUpkeep (h : Change made plans s t) {f : Upkeep → Upkeep} (hf : upkeepCanonical t.upkeep → upkeepCanonical (f t.upkeep)) :
    Change made plans s (t.onUpkeep f) := h.trans (.upkeep _ _ hf)

theorem onMonitor (h : Change made plans s t) {f : Monitor → Monitor} (hf : (f t.monitor).trims = t.monitor.trims) :
    Change made plans s (t.onMonitor f) := h.trans (.monitor _ _ hf)

theorem onModes (h : Change made plans s t) {f : ModeController → ModeController} (hm : (f t.modes).mode = t.modes.mode)
    (hs : (f t.modes).steering = t.modes.steering) : Change made plans s (t.onModes f) := h.trans (.modes _ _ hm hs)

/-- A scan cause, a hold source, a plan, a queue: what none of the invariants of the Gate reads. -/
theorem onGateAux (h : Change made plans s t) {f : Gate → Gate} (hf : (f t.gate).flights = t.gate.flights := by rfl)
    (hb : (f t.gate).budgets = t.gate.budgets := by rfl) (hu : (f t.gate).urgentBudget = t.gate.urgentBudget := by rfl)
    (hr : (f t.gate).ring = t.gate.ring := by rfl) (hn : (f t.gate).recordCounter = t.gate.recordCounter := by rfl)
    (hc : (f t.gate).components = t.gate.components := by rfl) : Change made plans s (t.onGate f) :=
  h.onGate (.aux hf hb hu hr hn hc)

end Change

/-! ### The Line Path and the Dispatcher -/

theorem lineBounded.setPort {l : LinePath} (h : lineBounded l) (p : Port) (x : PortState) : lineBounded (l.setPort p x) := by
  cases p <;> exact h

theorem lineBounded.setAsserted {l : LinePath} (h : lineBounded l) (p : Port) (b : Bool) : lineBounded (l.setAsserted p b) := by
  cases p <;> exact h

/-- A forward queue replaced by one within its capacity. -/
theorem lineBounded.setForward {l : LinePath} (h : lineBounded l) (p : Port) {q : List Frame} (hq : q.length ≤ 48) :
    lineBounded (l.setForward p q) := by
  cases p
  · exact ⟨hq, h.2⟩
  · exact ⟨h.1, hq, h.2.2⟩

theorem lineBounded.forward_le {l : LinePath} (h : lineBounded l) (p : Port) : (l.forward p).length ≤ 48 := by
  cases p
  · exact h.1
  · exact h.2.1

theorem Change.wantPause (h : Change made plans s t) (p : Port) (q : Nat) : Change made plans s (t.wantPause p q) :=
  h.onLine fun hl => by split <;> exact hl.setPort _ _

theorem Change.forwardDeparted (h : Change made plans s t) (p : Port) : Change made plans s (t.forwardDeparted p) := by
  unfold State.forwardDeparted
  split
  · exact (h.onLine fun hl => hl.setAsserted _ _).wantPause _ _
  · exact h

theorem Change.forwardArrived (h : Change made plans s t) (p : Port) : Change made plans s (t.forwardArrived p) := by
  unfold State.forwardArrived
  dsimp only
  repeat' split
  · exact h.wantPause _ _
  · exact h
  · exact (h.onLine fun hl => hl.setAsserted _ _).wantPause _ _
  · exact h

/-- The head of a forward queue is sent. -/
theorem Change.sendForward (h : Change made plans s t) (p : Port) {f : Frame} {fs : List Frame}
    (hq : t.line.forward p = f :: fs) : Change made plans s (t.sendForward p f fs) := by
  refine Change.forwardDeparted (h.onLine fun hl => ?_) p
  refine (hl.setForward p ?_).setPort _ _
  have := hl.forward_le p
  rw [hq, List.length_cons] at this
  omega

theorem Change.sendInjection (h : Change made plans s t) {e : Injection} {es : List Injection}
    (hq : t.line.injections = e :: es) : Change made plans s (t.sendInjection e es) := by
  refine Change.report (Change.onGateAux (h.onLine fun hl => ?_)) rfl
  obtain ⟨hs, hf, hi, hr⟩ := hl
  rw [hq, List.length_cons] at hi
  exact ⟨hs, hf, by dsimp only; omega, hr⟩

theorem Change.arbitrateF (h : Change made plans s t) : Change made plans s t.arbitrateF := by
  unfold State.arbitrateF
  dsimp only
  split
  · exact h
  · split
    · exact h.onLine fun hl => hl
    · split
      · exact h
      · split
        · exact h
        · next hs _ => exact h.sendForward .sPort hs
        · next _ hi => exact h.sendInjection hi
        · next hs hi =>
          split
          · exact h.sendForward .sPort hs
          · exact h.sendInjection hi

/-- A reply joins a reply queue that has room. -/
theorem Change.enqueueReply (h : Change made plans s t) (r : Reply) (hq : t.line.replies.length < Config.replyCapacity) :
    Change made plans s (t.enqueueReply r) := by
  have hseq : Change made plans s t.advanceSequence := h.onLine fun hl => hl
  unfold State.enqueueReply
  refine hseq.onLine fun hl => ?_
  obtain ⟨hs, hf, hi, hb, -⟩ := hl
  exact ⟨hs, hf, hi, hb, by rw [List.length_append]; exact hq⟩

theorem Change.placeHeld (h : Change made plans s t) : Change made plans s t.placeHeld := by
  unfold State.placeHeld
  repeat' split
  · exact h
  · exact (h.onDispatcher _).enqueueReply _ ‹_›
  · exact h

theorem Change.moveFirstNotice (h : Change made plans s t) (hr : t.line.replies = []) (ns : List PendingNotice) :
    Change made plans s (t.moveFirstNotice ns) := by
  induction ns with
  | nil => exact h.onDispatcher _
  | cons n rest ih =>
    unfold State.moveFirstNotice
    dsimp only
    split
    · exact ih
    · have hseq := (h.onDispatcher fun d => { d with pendingNotices := rest }).onLine
        (f := fun l => { l with sequence := l.sequence + 1#8 }) fun hl => hl
      refine hseq.onLine fun hl => ?_
      obtain ⟨hs, hf, hi, hb, -⟩ := hl
      exact ⟨hs, hf, hi, hb, by simp [hr]⟩

theorem Change.signalReady (h : Change made plans s t) : Change made plans s t.signalReady := by
  unfold State.signalReady
  split
  · next hn =>
    simp only [LinePath.noticeReady, Bool.and_eq_true, List.isEmpty_iff] at hn
    exact h.moveFirstNotice hn.1.1 _
  · exact h

/-- A telegram leaves the reply queue. -/
theorem Change.sendReply (h : Change made plans s t) (e : QueuedReply) {es : List QueuedReply}
    (hq : es.length ≤ t.line.replies.length) : Change made plans s (t.sendReply e es) := by
  refine Change.signalReady (Change.placeHeld (h.onLine fun hl => ?_))
  obtain ⟨hs, hf, hi, hb, hr⟩ := hl
  exact ⟨hs, hf, hi, hb, Nat.le_trans hq hr⟩

theorem Change.arbitrateS (h : Change made plans s t) : Change made plans s t.arbitrateS := by
  unfold State.arbitrateS
  dsimp only
  split
  · exact h
  · split
    · exact h.onLine fun hl => hl
    · split
      · exact h
      · split
        · exact h.sendReply _ List.length_erase_le
        · split
          · exact h
          · next hf _ => exact h.sendForward .fPort hf
          · next hr => exact h.sendReply _ (by rw [hr]; exact Nat.le_succ _)
          · next hf hr =>
            split
            · exact h.sendForward .fPort hf
            · exact h.sendReply _ (by rw [hr]; exact Nat.le_succ _)

theorem Change.arbitrate (h : Change made plans s t) (p : Port) : Change made plans s (t.arbitrate p) := by
  cases p
  · exact h.arbitrateS
  · exact h.arbitrateF

theorem Change.placeReply (h : Change made plans s t) (r : Reply) : Change made plans s (t.placeReply r) := by
  unfold State.placeReply
  split
  · exact (h.enqueueReply r ‹_›).arbitrateS
  · exact h.onDispatcher _

theorem Change.answer (h : Change made plans s t) (q : ReqHead) (u : Nat) (st : Status) (r : List Byte) :
    Change made plans s (t.answer q u st r) := h.placeReply _

theorem Change.lateAnswer (h : Change made plans s t) (u : Nat) (st : Status) (r : List Byte) :
    Change made plans s (t.lateAnswer u st r) := by
  unfold State.lateAnswer
  repeat' split
  · exact h
  · exact (h.onDispatcher _).answer _ _ _ _
  · exact h
  · exact (h.onDispatcher _).answer _ _ _ _

theorem joinInjections_length (e : Injection) (q : List Injection) : (joinInjections e q).length = q.length + 1 := by
  unfold joinInjections
  split
  · simp
  · rw [List.length_append, List.length_cons, ← Nat.add_assoc, ← List.length_append, List.takeWhile_append_dropWhile]

theorem Change.submitBias (h : Change made plans s t) (c : MoveClass) (i : Nat) : Change made plans s (t.submitBias c i) := by
  unfold State.submitBias
  repeat' split
  · exact h
  · exact h
  · next hn =>
    have hseq : Change made plans s t.advanceSequence := h.onLine fun hl => hl
    refine (hseq.onLine fun hl => ?_).arbitrateF
    obtain ⟨hs, hf, hi, hr⟩ := hl
    refine ⟨hs, hf, ?_, hr⟩
    have := Nat.not_le.mp (not_or.mp hn).2
    simp only [joinInjections_length]
    exact this

/-- A frame joins a forward queue that has room. -/
theorem Change.joinForward (h : Change made plans s t) (p : Port) (f : Frame) (hq : t.line.forwardFull p = false) :
    Change made plans s (t.joinForward p f) := by
  refine Change.arbitrate (Change.forwardArrived (h.onLine fun hl => hl.setForward p ?_) p) _
  have := of_decide_eq_false hq
  simp only [Config.forwardCapacity] at this
  rw [List.length_append, List.length_singleton]
  omega

theorem Change.forwardFrame (h : Change made plans s t) (p : Port) (f : Frame) : Change made plans s (t.forwardFrame p f) := by
  unfold State.forwardFrame
  split
  · exact h
  · exact h.joinForward p f (eq_false_of_ne_true ‹_›)

theorem Change.offerRequest (h : Change made plans s t) (r : Request) : Change made plans s (t.offerRequest r) := by
  refine h.onLine fun hl => ?_
  split
  · next hi =>
    obtain ⟨hs, hf, hj, -, hr⟩ := hl
    have : t.line.inbox.length < 8 := hi
    exact ⟨hs, hf, hj, by rw [List.length_append, List.length_singleton]; omega, hr⟩
  · exact hl

theorem Change.endPause (h : Change made plans s t) (p : Port) : Change made plans s (t.endPause p) := by
  have h1 : Change made plans s ((t.onLine fun l => l.setPort p { l.port p with paused := none }).arbitrate p) :=
    (h.onLine fun hl => hl.setPort _ _).arbitrate p
  cases p
  · exact h1.signalReady.arbitrateS
  · exact h1

theorem Change.enterNotice (h : Change made plans s t) (n : PendingNotice) : Change made plans s (t.enterNotice n) := by
  unfold State.enterNotice
  dsimp only
  repeat' split
  · exact h
  · exact h.onDispatcher _
  · exact (h.onDispatcher _).signalReady.arbitrateS

theorem Change.purgeInjections (h : Change made plans s t) : Change made plans s t.purgeInjections := by
  unfold State.purgeInjections
  dsimp only
  split
  · exact h
  · refine Change.trans (Change.onGateAux (h.onLine fun hl => ?_)) (.reports _ _ ?_)
    · exact ⟨hl.1, hl.2.1, by simp, hl.2.2.2⟩
    · have hroom : modeToEither .roomEvent = false := rfl
      simp [List.filter_append, hroom]

theorem Change.takeRequest (h : Change made plans s t) {c : Instr} {u : State} (hu : t.takeRequest c = some u) :
    Change made plans s u := by
  obtain ⟨-, -, rfl⟩ := State.takeRequest_spec hu
  refine h.trans (.line _ _ fun hl => ?_)
  obtain ⟨hs, hf, hj, hi, hr⟩ := hl
  exact ⟨hs, hf, hj, by rw [List.length_tail]; omega, hr⟩

/-! ### The Fleet Table, the Monitor and Bias Upkeep -/

theorem Change.setDynamic (h : Change made plans s t) (i : Nat) (d : TurbineDynamic) :
    Change made plans s (t.onFleet (Fleet.setDynamic i d)) := h.trans (.dynamic _ _ _)

theorem Upkeep.restart_canonical {u : Upkeep} (h : upkeepCanonical u) (i : Nat) (x : Timer) (ws : List Nat) :
    upkeepCanonical { u.setRefresh i x with waitList := ws } := ⟨h.1, Table.wf_set _ _ _ _ h.2⟩

theorem Change.restartRefresh (h : Change made plans s t) (i : Nat) : Change made plans s (t.restartRefresh i) :=
  h.onUpkeep fun hu => Upkeep.restart_canonical hu _ _ _

theorem Change.handBias (h : Change made plans s t) (i : Nat) (v : Int) (b : Bool) : Change made plans s (t.handBias i v b) := by
  unfold State.handBias
  dsimp only
  have hrec : Change made plans s (if b = true then t.onUpkeep (Upkeep.record i v) else t) := by
    split
    · exact h.onUpkeep fun hu => ⟨Table.wf_set _ _ _ _ hu.1, hu.2⟩
    · exact h
  generalize (if b = true then t.onUpkeep (Upkeep.record i v) else t) = u at hrec ⊢
  split
  · exact hrec.restartRefresh i
  · exact hrec

theorem Change.injectGrant (h : Change made plans s t) (c : MoveClass) (i : Nat) : Change made plans s (t.injectGrant c i) := by
  unfold State.injectGrant
  split
  · exact (h.submitBias c i).restartRefresh i
  · exact h

theorem Change.submitRefresh (h : Change made plans s t) (i : Nat) : Change made plans s (t.submitRefresh i) :=
  (h.submitBias .normal i).restartRefresh i

theorem Change.refreshExpired (h : Change made plans s t) (i : Nat) : Change made plans s (t.refreshExpired i) := by
  unfold State.refreshExpired
  split
  · exact h.onUpkeep fun hu => Upkeep.restart_canonical hu _ _ _
  · exact h.submitRefresh i

theorem Change.serveWaiting (ws : List Nat) (h : Change made plans s t) : Change made plans s (State.serveWaiting ws t) := by
  induction ws generalizing t with
  | nil => exact h
  | cons w ws ih =>
    unfold State.serveWaiting
    split
    · exact h
    · exact ih (h.submitRefresh w)

theorem Change.roomTaken (h : Change made plans s t) : Change made plans s t.roomTaken := by
  unfold State.roomTaken
  split
  · exact h.serveWaiting _
  · exact h

theorem Upkeep.enter_canonical {u : Upkeep} (h : upkeepCanonical u) (m : Mode) : upkeepCanonical (u.enter m) := by
  cases m
  case off => exact ⟨h.1, rfl⟩
  all_goals exact h

theorem Monitor.voidPlan_trims (n : Nat) (e : PlanEnd) (c : Nat) (m : Monitor) : (m.voidPlan n e c).trims = m.trims := by
  unfold Monitor.voidPlan
  repeat' split
  all_goals rfl

theorem Monitor.installed_trims (f : Fleet) (i : InstallInfo) (c : Nat) (m : Monitor) :
    (Monitor.installed f i c m).trims = m.trims := by
  unfold Monitor.installed
  dsimp only
  repeat' split
  all_goals first | rfl | exact Monitor.voidPlan_trims _ _ _ _

theorem Monitor.arrival_trims (r p c : Nat) (m : Monitor) : (Monitor.arrival r p c m).trims = m.trims := by
  unfold Monitor.arrival
  split <;> rfl

theorem Monitor.released_trims (p w c : Nat) (m : Monitor) : (Monitor.released p w c m).trims = m.trims := by
  unfold Monitor.released
  split <;> rfl

/-- A vote keeps a trim in its range (R154). -/
theorem votedTrim_range {net : Int} {x : Nat} (h : 32 ≤ x ∧ x ≤ 128) : 32 ≤ votedTrim net x ∧ votedTrim net x ≤ 128 := by
  unfold votedTrim
  repeat' split
  all_goals omega

theorem Change.planCompletedAtMonitor (h : Change made plans s t) (n : Nat) :
    Change made plans s (t.planCompletedAtMonitor n) := by
  unfold State.planCompletedAtMonitor
  split
  · exact h
  next p _ =>
  split
  · dsimp only
    split
    · have hafter : 32 ≤ t.monitor.trim p.pair.sector ∧ t.monitor.trim p.pair.sector ≤ 128 →
          32 ≤ (if p.pair.sector < t.wind.params.sectors then
            votedTrim (voteNet (t.monitor.watches.map Watch.complete)) (t.monitor.trim p.pair.sector)
            else t.monitor.trim p.pair.sector) ∧
          (if p.pair.sector < t.wind.params.sectors then
            votedTrim (voteNet (t.monitor.watches.map Watch.complete)) (t.monitor.trim p.pair.sector)
            else t.monitor.trim p.pair.sector) ≤ 128 := fun hr => by
        split
        · exact votedTrim_range hr
        · exact hr
      generalize (if p.pair.sector < t.wind.params.sectors then _ else _ : Nat) = after at hafter ⊢
      have hclosed := (h.trans (.trim p.pair.sector after t hafter)).onMonitor (f := Monitor.close p .complete t.now
        (.taken (voteNet (t.monitor.watches.map Watch.complete)) (t.monitor.trim p.pair.sector) after)
        (t.monitor.watches.map Watch.complete)) rfl
      split
      · exact hclosed
      · exact hclosed.notify _
    · exact h.onMonitor rfl
  · exact h

theorem Change.armWatch (h : Change made plans s t) (p w : Nat) : Change made plans s (t.armWatch p w) :=
  h.onMonitor (by split <;> rfl)

theorem Change.takeAtMonitor (h : Change made plans s t) (c : Instr) : Change made plans s (t.takeAtMonitor c) := by
  unfold State.takeAtMonitor
  split
  · exact h.onMonitor (Monitor.installed_trims _ _ _ _)
  · exact h.onMonitor (Monitor.released_trims _ _ _ _)
  · exact h.armWatch _ _
  · exact h.planCompletedAtMonitor _
  · exact h.onMonitor (Monitor.voidPlan_trims _ _ _ _)
  · exact h.onMonitor rfl
  · exact h

theorem modeToEither_of_toMonitor {c : Instr} (h : toMonitor c = true) : modeToEither c = false := by
  cases c <;> first | rfl | exact absurd h (by simp [toMonitor, gateToMonitor])

theorem toMonitor_of_gateToMonitor {c : Instr} (h : gateToMonitor c = true) : toMonitor c = true := by
  cases c <;> first | rfl | exact h

/-- Reports of a kind that touches no report of a mode, taken one after another. -/
theorem Change.takeEach {take : Instr → State → State}
    (ht : ∀ {t : State} (c : Instr), Change made plans s t → Change made plans s (take c t)) {cs : List Instr}
    (hk : ∀ c ∈ cs, modeToEither c = false) (h : Change made plans s t) : Change made plans s (t.takeEach take cs) := by
  induction cs generalizing t with
  | nil => exact h
  | cons c cs ih =>
    exact ih (fun x hx => hk x (List.mem_cons_of_mem _ hx)) (ht c (h.arrive (hk c List.mem_cons_self)))

theorem Change.takeInOrder {take : Instr → State → State} {kind : Instr → Bool}
    (ht : ∀ {t : State} (c : Instr), Change made plans s t → Change made plans s (take c t))
    (hk : ∀ c, kind c = true → modeToEither c = false) {c : Instr} (hc : kind c = true) (h : Change made plans s t) :
    Change made plans s (t.takeInOrder kind take c) :=
  ht c ((Change.takeEach ht (fun x hx => hk x (List.mem_filter.mp hx).2) h).arrive (hk c hc))

theorem Change.takenAtMonitor (h : Change made plans s t) {c : Instr} (hc : gateToMonitor c = true) :
    Change made plans s (t.takenAtMonitor c) :=
  Change.takeInOrder (fun c h => h.takeAtMonitor c)
    (fun _ hk => modeToEither_of_toMonitor (toMonitor_of_gateToMonitor hk)) hc h

theorem Change.settleTrims (h : Change made plans s t) : Change made plans s t.settleTrims := by
  unfold State.settleTrims
  dsimp only
  split
  · exact Change.takeEach (fun c h => h.takeAtMonitor c)
      (fun c hc => modeToEither_of_toMonitor (List.mem_filter.mp hc).2) h
  · exact h

end Sys2Proof.Machine
end

/-! PROOFS. The operations of the Estimator, the Table Store, the Planner, the Release Gate and the Mode Controller as sequences of
the elementary changes. -/

section
namespace Sys2Proof.Machine

variable {made plans : Prop} {s t : State}

/-! ### The Table Store -/

theorem Change.setInput (h : Change made plans s t) (r : SwapInput) :
    Change made plans s (t.onTables (TableStore.setInput r)) := by cases r <;> exact h.trans (.inputs _ _ _ _)

theorem Change.reportCondition (h : Change made plans s t) (r : Bool → SwapInput) : Change made plans s (t.reportCondition r) :=
  (h.arrive rfl).setInput _

/-- A swap of a shadow that was validated, now or as its commit went PENDING. -/
theorem Change.swapped (h : Change made plans s t) (d : Bool)
    (hv : t.tables.commitPending = true ∨ t.validate (t.tables.bank t.tables.shadow) = none) :
    Change made plans s (t.swap d) := (h.trans (.swap _ _ hv)).report rfl

theorem Change.becomePending (h : Change made plans s t) (hr : t.tables.refill = none)
    (hv : t.validate (t.tables.bank t.tables.shadow) = none) : Change made plans s t.becomePending := by
  have hwithdrawn : Change made plans s (t.withdraw (.commitStateReport false)) := by
    refine h.trans (.reports _ _ ?_)
    rw [List.filter_filter]
    refine List.filter_congr fun x _ => ?_
    by_cases hx : x = .commitStateReport false
    · subst hx; rfl
    · simp [hx]
  exact (hwithdrawn.trans (.pend _ hr hv)).trans (.planner _ _ rfl rfl (.inr (.inl rfl)))

theorem Change.swapConditionReported (h : Change made plans s t) (r : SwapInput) :
    Change made plans s (t.swapConditionReported r) := by
  unfold State.swapConditionReported
  dsimp only
  split
  · next hc => exact (h.setInput r).swapped _ (.inl (Bool.and_eq_true_iff.mp hc).1)
  · exact h.setInput r

theorem Change.takeConditions (h : Change made plans s t) (r : SwapInput) : Change made plans s (t.takeConditions r) := by
  have hone : ∀ {t : State} (r : SwapInput), Change made plans s t → Change made plans s (t.takeCondition r) :=
    fun r h => (h.arrive rfl).swapConditionReported r
  have hmany : ∀ (bs : List Bool) {t : State}, Change made plans s t →
      Change made plans s (bs.foldl (fun s b => s.takeCondition (.planInstalled b)) t) := by
    intro bs
    induction bs with
    | nil => exact fun h => h
    | cons b bs ih => exact fun h => ih (hone _ h)
  exact hone r (hmany _ h)

theorem Change.refillCompleted (h : Change made plans s t) : Change made plans s t.refillCompleted := by
  unfold State.refillCompleted
  split
  · exact h
  · next r hr =>
    have hcopied := h.trans (.refilled t (by simp [hr]))
    dsimp only
    split
    · exact hcopied
    · exact hcopied.notify _

/-! ### The Estimator -/

theorem Change.trigger (h : Change made plans s t) (p : Pair) (hp : t.wind.dwellPair.map (·.pair) = some p ∨
    steering t.modes.mode = true ∧ t.wind.candidate = some p) : Change made plans s (t.trigger p) :=
  (h.trans (.spend p t hp)).report rfl

theorem Change.dwellExpired (h : Change made plans s t) : Change made plans s t.dwellExpired := by
  unfold State.dwellExpired
  split
  · exact h.trans (.dwell _)
  · next d hd => exact h.trigger _ (.inl (by simp [hd]))

/-! ### The Planner -/

/-- The reports to the Monitor, taken one after another, change the Monitor, the reports and the notices alone. -/
theorem State.takeEach_takeAtMonitor_frame (cs : List Instr) (s : State) :
    s.takeEach State.takeAtMonitor cs = { s with
      monitor := (s.takeEach State.takeAtMonitor cs).monitor
      reports := (s.takeEach State.takeAtMonitor cs).reports
      notices := (s.takeEach State.takeAtMonitor cs).notices } := by
  induction cs generalizing s with
  | nil => rfl
  | cons c cs ih =>
    have hstep := State.takeAtMonitor_frame c (s.arrive c)
    have hrest := ih ((s.arrive c).takeAtMonitor c)
    have hcons : s.takeEach State.takeAtMonitor (c :: cs) =
        ((s.arrive c).takeAtMonitor c).takeEach State.takeAtMonitor cs := rfl
    rw [hcons]
    generalize (s.arrive c).takeAtMonitor c = u at hstep hrest ⊢
    generalize u.takeEach State.takeAtMonitor cs = v at hrest ⊢
    refine hrest.trans ?_
    rw [hstep]
    rfl

/-- The settling of the trims changes the Monitor, the reports and the notices alone (R153). -/
theorem State.settleTrims_frame (s : State) : s.settleTrims = { s with
    monitor := s.settleTrims.monitor, reports := s.settleTrims.reports, notices := s.settleTrims.notices } := by
  unfold State.settleTrims
  dsimp only
  split
  · exact State.takeEach_takeAtMonitor_frame _ _
  · rfl

@[simp] theorem State.settleTrims_planner (s : State) : s.settleTrims.planner = s.planner := by
  rw [State.settleTrims_frame]

@[simp] theorem State.settleTrims_tables (s : State) : s.settleTrims.tables = s.tables := by
  rw [State.settleTrims_frame]

theorem Change.startBuild (h : Change made plans s t) (hp : plans) (p : Pair) (hm : steering t.planner.modeIn = true) :
    Change made plans s (t.startBuild p) :=
  Change.reportCondition (h.settleTrims.trans (.build _ _ hp (by rw [State.settleTrims_planner]; exact hm))) _

theorem Change.tryBuild (h : Change made plans s t) (hp : plans) : Change made plans s t.tryBuild := by
  rcases State.tryBuild_cases t with ⟨p, -, hm, hb⟩ | hb <;> rw [hb]
  · simp only [Planner.mayBuild, Bool.and_eq_true] at hm
    exact h.startBuild hp p hm.1.1.2
  · exact h

theorem Change.endBuild (h : Change made plans s t) : Change made plans s t.endBuild :=
  (h.trans (.planner { t.planner with build := none } t rfl rfl (.inl rfl))).report rfl

/-- The Planner takes a report of a mode. -/
theorem Change.plannerMode (h : Change made plans s t) (hp : plans) {m : Mode}
    (hm : made → (t.reports.filterMap plannerReportOf).head? = some m) :
    Change made plans s ((t.arrive (.plannerModeChange m)).plannerMode m) := by
  have htaken := h.trans (.plannerTakes m t hp hm)
  unfold State.plannerMode
  dsimp only
  split
  · exact htaken.tryBuild hp
  · have hempty := htaken.trans (.latch none _ hp)
    repeat' split
    · exact hempty
    · exact hempty.endBuild
    · exact (hempty.lateAnswer _ _ _).endBuild
    · exact hempty

theorem Change.previewCompleted (h : Change made plans s t) (hp : plans) : Change made plans s t.previewCompleted := by
  unfold State.previewCompleted
  repeat' split
  · exact h
  · exact h
  · next b _ _ _ =>
    have hshown := h.trans (.planner { t.planner with preview := some (t.previewPlan b) } t rfl rfl (.inr (.inl rfl)))
    exact ((hshown.lateAnswer unitPlanner .ok _).endBuild).tryBuild hp

/-- A preview starts on a VALID bank. -/
theorem Change.startPreview (h : Change made plans s t) (q : ReqHead) (p : Pair) (hv : t.tables.valid = true) :
    Change made plans s (t.startPreview q p) := by
  have hbuild := h.settleTrims.trans (.planner { t.settleTrims.planner with
    preview := none, build := some ⟨.preview, p, t.settleTrims.buildInputs p⟩ } t.settleTrims rfl rfl
    (.inr (.inr (by rw [State.settleTrims_tables]; exact hv))))
  unfold State.startPreview
  exact Change.onDispatcher (t := State.reportBuilding _) (Change.reportCondition hbuild _) _

/-! ### The Release Gate's own operations -/

namespace GateChange

variable {g k : Gate}

theorem onRecord (h : GateChange g k) (q : Nat) {f : MoveRecord → MoveRecord}
    (hf : ∀ r, (f r).sequence = r.sequence := by intro; rfl) : GateChange g (k.onRecord q f) :=
  h.trans (.records _ (fun r => by split <;> simp [hf]) _)

theorem finishAll (h : GateChange g k) (p : MoveRecord → Bool) (st : RecordState) (c : Option FinishCause) (n : Nat) :
    GateChange g (k.finishAll p st c n) :=
  (h.trans (.records (fun r => if p r && !r.state.finished then r.finish st c n else r)
    (fun r => by split <;> rfl) k)).trans (.aux rfl rfl rfl rfl rfl rfl)

theorem setQueue (h : GateChange g k) (c : MoveClass) (l : List Nat) : GateChange g (k.setQueue c l) := by
  cases c <;> exact h.trans (.aux rfl rfl rfl rfl rfl rfl)

theorem makeReady (h : GateChange g k) (q : Nat) (c : MoveClass) : GateChange g (k.makeReady q c) := by
  have hready := (h.onRecord q (f := fun r => { r with state := .ready, grantTime := none })).setQueue c
    (k.queue c ++ [q])
  cases c <;> exact hready.trans (.aux rfl rfl rfl rfl rfl rfl)

theorem leaveQueue (h : GateChange g k) (q : Nat) (c : MoveClass) : GateChange g (k.leaveQueue q c) := h.setQueue c _

theorem releaseRecords (qs : List Nat) (h : GateChange g k) : GateChange g (Gate.releaseRecords qs k) := by
  induction qs generalizing k with
  | nil => exact h
  | cons q qs ih =>
    unfold Gate.releaseRecords
    refine ih ?_
    repeat' split
    · exact h.makeReady _ _
    · exact h
    · exact h

theorem disown (h : GateChange g k) (fate : Fate) : GateChange g (k.disown fate) := by
  have hsame : (k.disown fate).flights.map (·.turbine) = k.flights.map (·.turbine) := by
    refine List.map_map.trans (List.map_congr_left fun f _ => ?_)
    rw [Function.comp_apply]
    split <;> rfl
  exact h.trans (.flights _ _ (hsame ▸ List.Sublist.refl _))

theorem endFlight (h : GateChange g k) (f : Flight) : GateChange g (k.endFlight f) :=
  (h.trans (.flights _ _ (List.filter_sublist.map _))).trans (.aux rfl rfl rfl rfl rfl rfl)

theorem supersede (h : GateChange g k) (p : Plan) (n : Nat) : GateChange g (k.supersede p n) :=
  ((h.finishAll _ _ _ _).disown _).trans (.aux rfl rfl rfl rfl rfl rfl)

theorem createUrgent (h : GateChange g k) (p n t : Nat) : GateChange g (k.createUrgent p n t) :=
  (h.trans (.create _ _)).trans (.aux rfl rfl rfl rfl rfl rfl)

theorem createAllUrgent (p n : Nat) (ts : List Nat) (h : GateChange g k) : GateChange g (Gate.createAllUrgent p n ts k) := by
  induction ts generalizing k with
  | nil => exact h
  | cons t ts ih => exact ih (h.createUrgent p n t)

theorem createRecords (rs : List MoveRecord) (h : GateChange g k) : GateChange g (k.createRecords rs).1 := by
  induction rs generalizing k with
  | nil => exact h
  | cons r rs ih => exact ih (h.trans (.create r k))

theorem createWaves (ws : List (Slot × List MoveRecord)) (h : GateChange g k) : GateChange g (k.createWaves ws).1 := by
  induction ws generalizing k with
  | nil => exact h
  | cons w ws ih => exact ih (h.createRecords w.2)

theorem cancelEverything (h : GateChange g k) (c : FinishCause) (n : Nat) : GateChange g (k.cancelEverything c n) :=
  (((h.finishAll _ _ _ _).trans (.flights [] _ (List.nil_sublist _))).trans (.home _)).trans
    (.aux rfl rfl rfl rfl rfl rfl)

/-- A segment begins: the record leaves its queue, the component moves and the segment flies (R119). -/
theorem segment (f : Flight) (q : Nat) (c : MoveClass) {e : MoveRecord → MoveRecord}
    (he : ∀ r, (e r).sequence = r.sequence) (i : Nat) (v : Int) (g : Gate) (hb : g.busy f.turbine = false)
    (hl : g.flights.length < g.budget c) :
    GateChange g { (g.leaveQueue q c).onRecord q e with
      components := ((g.leaveQueue q c).onRecord q e).components.set 0 i v
      flights := ((g.leaveQueue q c).onRecord q e).flights ++ [f] } := by
  have hall := (((GateChange.grant f c g hb hl).leaveQueue q c).onRecord q he).trans (.component i v _)
  cases c <;> exact hall

theorem elapse (h : GateChange g k) (n : Nat) : GateChange g (k.elapse n) := by
  unfold Gate.elapse
  split
  · exact h
  · exact h.trans (.aux rfl rfl rfl rfl rfl rfl)

end GateChange

theorem Change.elapse (h : Change made plans s t) (n : Nat) : Change made plans s (t.elapse n) :=
  ((h.onGate (GateChange.elapse (.refl _) n)).onLine (f := fun l => { l with
    sPort := l.sPort.elapse n, fPort := l.fPort.elapse n }) fun hl => hl).trans (.free _ _ _ _ _)

/-- An expiry of a timer: its seconds pass, and then it acts. -/
theorem Change.expire {f : State → State} (h : Change made plans s t) (x : Timer)
    (hf : ∀ {t : State}, Change made plans s t → Change made plans s (f t)) : Change made plans s (t.expire x f) := by
  cases x with
  | none => exact h
  | some d => exact hf (h.elapse _)

/-! ### The Release Gate's events -/

theorem Change.completePlan (h : Change made plans s t) (p : Plan) : Change made plans s (t.completePlan p) :=
  (((h.onGateAux (f := fun g => { g with installed := none, last := some { p with state := .complete } })).report rfl).report
    rfl).notify _

theorem Change.testCompletion (h : Change made plans s t) : Change made plans s t.testCompletion := by
  unfold State.testCompletion
  repeat' split
  · exact h
  · exact h.completePlan _
  · exact h

theorem Change.endAborted (h : Change made plans s t) (p : Plan) (c : AbortCause) : Change made plans s (t.endAborted p c) :=
  (((h.onGateAux (f := fun g => { g with installed := none, last := some { p with state := .aborted } })).report rfl).report
    rfl).notify _

theorem Change.cancelWaiting (h : Change made plans s t) (p : Plan) (c : FinishCause) :
    Change made plans s (t.cancelWaiting p c) := h.onGate (GateChange.finishAll (.refl _) _ _ _ _)

theorem Change.abortPlan (h : Change made plans s t) (p : Plan) (c : AbortCause) : Change made plans s (t.abortPlan p c) :=
  ((h.cancelWaiting p .abort).onGate (GateChange.disown (.refl _) _)).endAborted p c

/-- What follows the finish of an URGENT record: its report, and the end report where it was the last. -/
theorem Change.urgentFinished (h : Change made plans s t) (o : UrgentOutcome) : Change made plans s
    (if (t.report (.urgentFinishReport o)).gate.urgentUnfinished then t.report (.urgentFinishReport o)
      else (t.report (.urgentFinishReport o)).report .unwindEnd) := by
  split
  · exact h.report rfl
  · exact (h.report rfl).report rfl

theorem Change.recordFinished (h : Change made plans s t) (r : MoveRecord) (o : UrgentOutcome) :
    Change made plans s (t.recordFinished r o) := by
  unfold State.recordFinished
  split
  · split
    · exact h.testCompletion
    · exact h
  · exact h.urgentFinished o

theorem Change.releaseWave (h : Change made plans s t) (p : Plan) (w : Wave) : Change made plans s (t.releaseWave p w) := by
  have hg : GateChange t.gate (({ t.gate.releaseRecords w.sequences with
      installed := some { p with nextWave := p.nextWave + 1 } } : Gate).showPlan) :=
    (GateChange.releaseRecords w.sequences (.refl _)).trans (.aux rfl rfl rfl rfl rfl rfl)
  have hr := (h.onGate (f := fun g => ({ g.releaseRecords w.sequences with
    installed := some { p with nextWave := p.nextWave + 1 } } : Gate).showPlan) hg).report
      (c := .releaseReport p.number p.nextWave) rfl
  unfold State.releaseWave
  dsimp only
  split
  · exact hr.testCompletion
  · exact hr

theorem Change.nextWaveReleased (h : Change made plans s t) : Change made plans s t.nextWaveReleased := by
  unfold State.nextWaveReleased
  split
  · exact h
  · dsimp only
    split
    · exact h.elapse _
    · exact (h.elapse _).releaseWave _ _

theorem Change.skipRecord (h : Change made plans s t) (r : MoveRecord) (c : FinishCause) :
    Change made plans s (t.skipRecord r c) :=
  ((h.onGate (((GateChange.refl _).leaveQueue r.sequence r.cls).onRecord r.sequence)).notify _).recordFinished
    r .skipped

/-- A grant's own part, to a turbine that has no segment in flight, within the budget of its class. -/
theorem Change.beginSegment (h : Change made plans s t) (r : MoveRecord) (hb : t.gate.busy r.turbine = false)
    (hl : t.gate.flights.length < t.gate.budget r.cls) : Change made plans s (t.beginSegment r) := by
  unfold State.beginSegment
  dsimp only
  refine h.onGate (GateChange.segment _ r.sequence r.cls ?_ r.turbine _ _ ?_ hl)
  · exact fun _ => rfl
  · exact hb

theorem Change.reportFirstGrant (h : Change made plans s t) (r : MoveRecord) : Change made plans s (t.reportFirstGrant r) := by
  unfold State.reportFirstGrant
  repeat' split
  · exact h
  · exact Change.report h.onGateAux rfl
  · exact h
  · exact h

theorem Change.grant (h : Change made plans s t) (r : MoveRecord) (hb : t.gate.busy r.turbine = false)
    (hl : t.gate.flights.length < t.gate.budget r.cls) : Change made plans s (t.grant r) := by
  have hseg := h.beginSegment r hb hl
  have hinj : Change made plans s (if sending (t.beginSegment r).gate.modeIn then
      (t.beginSegment r).injectGrant r.cls r.turbine else t.beginSegment r) := by
    split
    · exact hseg.injectGrant _ _
    · exact hseg
  unfold State.grant
  dsimp only
  split
  · exact hinj.reportFirstGrant r
  · exact hinj

/-- A record is granted only while its turbine is not busy and a slot is free in its class's budget (R119). -/
theorem State.judge_grant {r : MoveRecord} (h : t.judge r = .grant) :
    t.gate.busy r.turbine = false ∧ t.gate.flights.length < t.gate.budget r.cls := by
  unfold State.judge at h
  split at h
  · cases h
  · split at h
    · cases h
    · split at h
      · cases h
      · next hb hl => exact ⟨eq_false_of_ne_true hb, Nat.not_le.mp hl⟩

theorem Change.walk (qs : List Nat) (h : Change made plans s t) : Change made plans s (State.walk qs t).1 := by
  induction qs generalizing t with
  | nil => exact h
  | cons q qs ih =>
    unfold State.walk
    split
    · exact ih h
    · next r _ =>
      split
      · exact ih (h.skipRecord r _)
      · exact ih h
      · exact ih h.onGateAux
      · exact h
      · next hg => exact ih (h.grant r (State.judge_grant hg).1 (State.judge_grant hg).2)

theorem Change.scan (h : Change made plans s t) : Change made plans s t.scan := by
  have h0 : Change made plans s (t.onGate fun g => { g with scanDue := false }) := h.onGateAux
  unfold State.scan
  dsimp only
  have hu := h0.walk (t.onGate fun g => { g with scanDue := false }).gate.urgentQueue
  split
  · next hw =>
    rw [hw] at hu
    exact hu.walk _
  · next hw =>
    rw [hw] at hu
    exact hu

theorem Change.finishRecord (h : Change made plans s t) (r : MoveRecord) (st : RecordState) (c : Option FinishCause) :
    Change made plans s (t.finishRecord r st c) := h.onGate (GateChange.onRecord (.refl _) _)

theorem Change.settle (h : Change made plans s t) (f : Flight) : Change made plans s (t.settle f) := by
  have hend := h.onGate (f := fun g => (g.endFlight f).onRecord f.record fun r => { r with done := r.done + 1 })
    (((GateChange.refl _).endFlight f).onRecord f.record)
  unfold State.settle
  dsimp only
  split
  · exact hend
  · split
    · exact (hend.finishRecord _ _ _).recordFinished _ _
    · exact hend.onGate ((GateChange.refl _).makeReady _ _)

theorem Change.chargeFailure (h : Change made plans s t) : Change made plans s t.chargeFailure := by
  unfold State.chargeFailure
  split
  · exact h
  · next p _ =>
    have hcount : Change made plans s
        (t.onGate fun g => { g with installed := some { p with failures := p.failures + 1 } }) := h.onGateAux
    dsimp only
    split
    · exact hcount.abortPlan _ _
    · exact (hcount.notify _).testCompletion

/-- What follows a failure once the record has finished: the turbine's FAULT, the notice, and what the failed segment's fate asks
for (R124). -/
theorem Change.failureFollows (h : Change made plans s t) (f : Flight) (c : FinishCause) : Change made plans s
    (let u := (t.onFleet (Fleet.failureReported f.turbine)).notify (.moveFailed f.record f.turbine c f.target)
     match f.fate with
     | .own => u.chargeFailure
     | .urgent =>
       let u := u.report (.urgentFinishReport .failed)
       if u.gate.urgentUnfinished then u else u.report .unwindEnd
     | .superseded | .aborted => u) := by
  have hmove : Change made plans s ((t.onFleet (Fleet.failureReported f.turbine)).notify
      (.moveFailed f.record f.turbine c f.target)) := (h.trans (.dynamic _ _ _)).notify _
  cases f.fate
  · exact hmove.chargeFailure
  · exact hmove.urgentFinished _
  · exact hmove
  · exact hmove

theorem Change.fail (h : Change made plans s t) (f : Flight) (c : FinishCause) : Change made plans s (t.fail f c) := by
  have hend := h.onGate (f := Gate.endFlight f) ((GateChange.refl _).endFlight f)
  unfold State.fail
  refine Change.failureFollows (t := _) ?_ f c
  split
  · exact hend.finishRecord _ _ _
  · exact hend

theorem Change.segmentSampled (h : Change made plans s t) (i : Nat) (y : YawState) (a : Int) :
    Change made plans s (t.segmentSampled i y a) := by
  unfold State.segmentSampled
  repeat' split
  · exact h
  · exact h.fail _ _
  · exact h.fail _ _
  · exact h
  · exact h.settle _
  · exact h
  · exact h

theorem Change.holdChanged (h : Change made plans s t) (was : Bool) : Change made plans s (t.holdChanged was) := by
  have hshown : Change made plans s (t.onGate Gate.showPlan) := h.onGateAux
  unfold State.holdChanged
  dsimp only
  repeat' split
  · exact h
  · exact (hshown.report rfl).notify _
  · exact hshown.report rfl
  · exact ((hshown.report rfl).onGateAux).notify _
  · exact (hshown.report rfl).onGateAux

theorem Change.setRequestHold (h : Change made plans s t) (b : Bool) : Change made plans s (t.setRequestHold b) :=
  Change.holdChanged h.onGateAux _

theorem Change.setLineHold (h : Change made plans s t) (b : Bool) : Change made plans s (t.setLineHold b) :=
  Change.holdChanged h.onGateAux _

/-- What an entry to UNWIND does once the installed plan has gone: the request hold is cleared, the URGENT records are created and
their figures handed on (R129, R165). -/
theorem Change.createUrgentRecords (h : Change made plans s t) (n : Nat) : Change made plans s
    (let v := t.setRequestHold false
     let w := (v.onGate (Gate.createAllUrgent n v.planner.params.maxStep v.gate.steeredTurbines)).report
       (.unwindFigures n v.gate.steeredTurbines.length)
     if w.gate.urgentUnfinished then w else w.report .unwindEnd) := by
  have hheld := h.setRequestHold false
  generalize t.setRequestHold false = v at hheld ⊢
  have hall : Change made plans s
      ((v.onGate (Gate.createAllUrgent n v.planner.params.maxStep v.gate.steeredTurbines)).report
        (.unwindFigures n v.gate.steeredTurbines.length)) :=
    Change.report (hheld.onGate (GateChange.createAllUrgent _ _ _ (.refl _))) rfl
  dsimp only
  split
  · exact hall
  · exact hall.report rfl

theorem Change.enterUnwind (h : Change made plans s t) : Change made plans s t.enterUnwind := by
  have hmode : Change made plans s (t.onGate fun g => { g with modeIn := .unwind }) := h.onGateAux
  unfold State.enterUnwind
  refine Change.createUrgentRecords ?_ _
  split
  · exact hmode.abortPlan _ _
  · exact hmode

theorem Change.reportCancelled (h : Change made plans s t) (n : Nat) : Change made plans s (t.reportCancelled n) := by
  unfold State.reportCancelled
  split
  · exact h
  · have hcancelled : modeToEither (.urgentFinishReport .cancelled) = false := rfl
    have hend : modeToEither .unwindEnd = false := rfl
    exact h.trans (.reports _ _ (by simp [List.filter_append, hcancelled, hend]))

theorem Change.enterOff (h : Change made plans s t) : Change made plans s t.enterOff := by
  have hmode : Change made plans s (t.onGate fun g => { g with modeIn := .off }) := h.onGateAux
  unfold State.enterOff
  dsimp only
  refine Change.reportCancelled (Change.onGate (t := match (t.onGate fun g => { g with modeIn := .off }).gate.installed with
      | some p => (t.onGate fun g => { g with modeIn := .off }).endAborted p .disable
      | none => t.onGate fun g => { g with modeIn := .off }) ?_ ?_) _
  · split
    · exact hmode.endAborted _ _
    · exact hmode
  · exact ((GateChange.refl _).cancelEverything _ _).trans (.aux rfl rfl rfl rfl rfl rfl)

theorem Change.notifySkipped (rs : List MoveRecord) (h : Change made plans s t) :
    Change made plans s (State.notifySkipped rs t) := by
  induction rs generalizing t with
  | nil => exact h
  | cons r rs ih => exact ih (h.notify _)

theorem Change.reportInstall (h : Change made plans s t) (p : Plan) (a b c : Nat) (o : Option Nat) (rs : List MoveRecord) :
    Change made plans s (t.reportInstall p a b c o rs) :=
  Change.notifySkipped rs (((h.report rfl).report rfl).notify _)

theorem Change.installPlan (h : Change made plans s t) (b : Build) : Change made plans s (t.installPlan b) := by
  unfold State.installPlan
  refine h.onGate ?_
  dsimp only
  refine GateChange.trans (GateChange.releaseRecords _ (GateChange.createWaves _ (k := match t.gate.installed with
    | some p => Gate.supersede p t.now { t.gate with planCounter := nextPlanNumber t.gate.planCounter }
    | none => { t.gate with planCounter := nextPlanNumber t.gate.planCounter }) ?_)) (.aux rfl rfl rfl rfl rfl rfl)
  have hcount : GateChange t.gate { t.gate with planCounter := nextPlanNumber t.gate.planCounter } :=
    .aux rfl rfl rfl rfl rfl rfl
  split
  · exact hcount.supersede _ _
  · exact hcount

theorem Change.abortAfterEntry (h : Change made plans s t) : Change made plans s t.abortAfterEntry := by
  unfold State.abortAfterEntry
  repeat' split
  · exact h
  · exact h
  · exact h
  · exact h
  · exact h.abortPlan _ _
  · exact (h.cancelWaiting _ _).endAborted _ _

theorem Change.installed (h : Change made plans s t) (hp : plans) (b : Build) : Change made plans s (t.installed b) := by
  have hplan := h.installPlan b
  unfold State.installed
  dsimp only
  refine Change.tryBuild (Change.endBuild (Change.abortAfterEntry ?_)) hp
  repeat' split
  · exact hplan
  · exact (hplan.reportInstall _ _ _ _ _ _).testCompletion
  · exact hplan.reportInstall _ _ _ _ _ _

/-! ### The Mode Controller -/

theorem Change.changeMode (h : Change made plans s t) (c : ModeCause) (m : Mode) (u : Option UnwindRecord)
    (hv : steering m = true → t.tables.valid = true) (hu : m = .unwind → t.modes.mode = .live) :
    Change made plans s (t.changeMode c m u) := (h.trans (.mode c m t hv hu)).trans (.free _ _ _ _ _)

theorem Change.beginUnwind (h : Change made plans s t) (c : ModeCause) (hm : t.modes.mode = .live) :
    Change made plans s (t.beginUnwind c) :=
  Change.changeMode (h.onModes rfl rfl) c .unwind none (fun hs => by cases hs) fun _ => hm

theorem Change.endUnwind (h : Change made plans s t) (c : ModeCause) (f : UnwindRecord → UnwindRecord) :
    Change made plans s (t.endUnwind c f) :=
  Change.changeMode (h.onModes rfl rfl) c .off _ (fun hs => by cases hs) fun hu => by cases hu

theorem Change.disable (h : Change made plans s t) : Change made plans s t.disable := by
  unfold State.disable
  split
  · exact h
  · exact h.changeMode _ _ _ (fun hs => by cases hs) fun hu => by cases hu
  · exact h.changeMode _ _ _ (fun hs => by cases hs) fun hu => by cases hu
  · exact h.endUnwind _ _

theorem Change.takeAtModes (h : Change made plans s t) (c : Instr) : Change made plans s (t.takeAtModes c) := by
  unfold State.takeAtModes
  split
  · exact h.onModes rfl rfl
  · exact h.onModes (by split <;> rfl) (by split <;> rfl)
  · unfold State.endTaken
    split
    · exact h.endUnwind _ _
    · exact h
  · exact h

theorem modeToEither_of_toModes {c : Instr} (h : toModes c = true) : modeToEither c = false := by
  cases c <;> first | rfl | exact absurd h (by simp [toModes])

theorem Change.takenAtModes (h : Change made plans s t) {c : Instr} (hc : toModes c = true) :
    Change made plans s (t.takenAtModes c) :=
  Change.takeInOrder (fun c h => h.takeAtModes c) (fun _ => modeToEither_of_toModes) hc h

theorem Change.reportGridhold (h : Change made plans s t) (was : Bool) : Change made plans s (t.reportGridhold was) := by
  unfold State.reportGridhold
  split
  · exact h
  · exact h.report rfl

theorem Change.stormActivated (h : Change made plans s t) : Change made plans s t.stormActivated := by
  unfold State.stormActivated
  split
  · next hm => exact h.beginUnwind _ hm
  · exact h.changeMode _ _ _ (fun hs => by cases hs) fun hu => by cases hu
  · exact h.onModes rfl rfl
  · exact h.onModes rfl rfl

theorem Change.lineChanged (h : Change made plans s t) (l : Line) (v : Level) : Change made plans s (t.lineChanged l v) := by
  unfold State.lineChanged
  cases l
  · dsimp only
    repeat' split
    · exact h
    · exact Change.stormActivated (h.onModes rfl rfl)
    · exact h.onModes rfl rfl
  · dsimp only
    split
    · exact h
    · exact Change.reportGridhold (h.onModes rfl rfl) _

theorem Change.setLines (h : Change made plans s t) (a b : LineConfig) : Change made plans s (t.setLines a b) :=
  Change.reportGridhold (h.onModes rfl rfl) _

/-! ### Samples, saves and RESTART -/

theorem Change.intake (h : Change made plans s t) (i : Nat) (x : Sample) : Change made plans s (t.intake i x) := by
  unfold State.intake
  split
  · have hrec : Change made plans s (t.recordSample i x) := h.setDynamic _ _
    have href : Change made plans s ((t.recordSample i x).handReference i x) := by
      unfold State.handReference
      split
      · exact hrec.trans (.sample _ _ _ _)
      · exact hrec
    have harr : Change made plans s (((t.recordSample i x).handReference i x).handArrival i x) := by
      unfold State.handArrival
      split
      · exact href.onMonitor (Monitor.arrival_trims _ _ _ _)
      · exact href
    unfold State.handYaw
    split
    · exact harr.segmentSampled _ _ _
    · exact harr
  · exact h

theorem Change.startSave (h : Change made plans s t) (q : ReqHead) : Change made plans s (t.startSave q) :=
  Change.onDispatcher (Change.reportCondition (h.onImage _) _) _

theorem Change.saveEnded (h : Change made plans s t) (o : SaveOutcome) : Change made plans s (t.saveEnded o) := by
  unfold State.saveEnded
  split
  · exact h
  · exact ((h.onImage _).report rfl).lateAnswer _ _ _

end Sys2Proof.Machine
end

/-! PROOFS. Every command is a sequence of the elementary changes (`exec_change`): the reports of changes of mode as they are taken
in their order, the geometry requests, and one line for each command. -/

section
namespace Sys2Proof.Machine

variable {made plans : Prop} {s t : State}

/-! ### What the taking of a report of a mode leaves -/

/-- A start of a build changes the Planner, the Table Store's input, the Monitor, the reports and the notices (R88, R153). -/
theorem State.startBuild_frame (p : Pair) (s : State) : s.startBuild p = { s with
    planner := { s.planner with latch := none, build := some ⟨.retarget, p, s.settleTrims.buildInputs p⟩ }
    tables := { s.tables with plannerBuilding := true }
    monitor := (s.startBuild p).monitor, reports := (s.startBuild p).reports, notices := (s.startBuild p).notices } := by
  unfold State.startBuild State.reportBuilding
  rw [State.reportCondition_plannerBuilding]
  have hframe := State.settleTrims_frame s
  generalize s.settleTrims = u at hframe ⊢
  simp only [State.onPlanner, State.mk.injEq, true_and]
  rw [hframe]
  simp

/-- The answer of a late request touches the egress side and the Dispatcher alone. -/
theorem State.lateAnswer_frame (u : Nat) (st : Status) (r : List Byte) (s : State) : s.lateAnswer u st r = { s with
    line := (s.lateAnswer u st r).line, reports := (s.lateAnswer u st r).reports
    gate := { s.gate with scanDue := (s.lateAnswer u st r).gate.scanDue }, dispatcher := (s.lateAnswer u st r).dispatcher } := by
  unfold State.lateAnswer
  repeat' split
  · rfl
  · have h := onlyEgress_placeReply ⟨‹ReqHead›, replyBody ‹ReqHead› u st r, false, none⟩
      (s.onDispatcher fun d => { d with plannerLate := none })
    unfold onlyEgress at h
    unfold State.answer
    generalize State.placeReply _ _ = v at h ⊢
    rw [h]
    rfl
  · rfl
  · have h := onlyEgress_placeReply ⟨‹ReqHead›, replyBody ‹ReqHead› u st r, false, none⟩
      (s.onDispatcher fun d => { d with imageLate := none })
    unfold onlyEgress at h
    unfold State.answer
    generalize State.placeReply _ _ = v at h ⊢
    rw [h]
    rfl

/-- The Estimator takes a report of a mode in its own block, and may make a trigger report (R58, R59). -/
theorem State.estimatorMode_frame (m : Mode) (s : State) : s.estimatorMode m = { s with
    wind := (s.estimatorMode m).wind, reports := (s.estimatorMode m).reports } := by
  unfold State.estimatorMode
  dsimp only
  repeat' split
  all_goals rfl

/-- The Planner builds for no other reason than a trigger, and only in a mode input that allows it. -/
def retargetsOnly (q : Planner) : Prop := ∀ b, q.build = some b → b.kind = .retarget ∧ steering q.modeIn = true

/-- What a geometry request looks at in the Mode Controller, the Table Store and the Planner. -/
def geometryKept (s t : State) : Prop :=
  t.modes = s.modes ∧ t.tables.commitPending = s.tables.commitPending ∧ (retargetsOnly s.planner → retargetsOnly t.planner)

theorem geometryKept.trans {s t u : State} (h1 : geometryKept s t) (h2 : geometryKept t u) : geometryKept s u :=
  ⟨h2.1.trans h1.1, h2.2.1.trans h1.2.1, h2.2.2 ∘ h1.2.2⟩

theorem geometryKept_tryBuild (s : State) : geometryKept s s.tryBuild := by
  rcases State.tryBuild_cases s with ⟨p, -, hm, hb⟩ | hb <;> rw [hb]
  · rw [State.startBuild_frame]
    refine ⟨rfl, rfl, fun _ b hbuild => ?_⟩
    simp only [Planner.mayBuild, Bool.and_eq_true] at hm
    cases hbuild
    exact ⟨rfl, hm.1.1.2⟩
  · exact ⟨rfl, rfl, id⟩

theorem geometryKept_plannerMode (m : Mode) (s : State) : geometryKept s (s.plannerMode m) := by
  unfold State.plannerMode
  dsimp only
  split
  · next hm =>
    obtain ⟨hmodes, hcommit, hbuild⟩ := geometryKept_tryBuild (s.onPlanner fun q => { q with modeIn := m })
    exact ⟨hmodes, hcommit, fun hr => hbuild fun b hb => ⟨(hr b hb).1, hm⟩⟩
  · split
    · next hb => exact ⟨rfl, rfl, fun _ b h => absurd (hb.symm.trans h) (by simp)⟩
    · next b hb =>
      have hb' : s.planner.build = some b := hb
      split
      · exact ⟨rfl, rfl, fun _ b h => by simp [State.endBuild] at h⟩
      · next hk =>
        split
        · refine ⟨?_, ?_, fun _ b h => by simp [State.endBuild] at h⟩
          · simp only [State.endBuild, State.report_modes, State.onPlanner_modes]
            rw [State.lateAnswer_frame]
            rfl
          · simp only [State.endBuild, State.report_tables, State.onPlanner_tables]
            rw [State.lateAnswer_frame]
            rfl
        · exact ⟨rfl, rfl, fun hr => absurd (hr b hb').1 (by simp [hk])⟩

theorem geometryKept_estimatorMode (m : Mode) (s : State) : geometryKept s (s.estimatorMode m) := by
  unfold State.estimatorMode
  dsimp only
  repeat' split
  all_goals exact ⟨rfl, rfl, id⟩

theorem geometryKept_takeModes (c : Instr) (s : State) : geometryKept s ((s.takeAtEstimator c).takeAtPlanner c) := by
  have h1 : geometryKept s (s.takeAtEstimator c) := by
    unfold State.takeAtEstimator
    split
    · exact geometryKept_estimatorMode _ _
    · exact ⟨rfl, rfl, id⟩
  refine h1.trans ?_
  unfold State.takeAtPlanner
  split
  · exact geometryKept_plannerMode _ _
  · exact ⟨rfl, rfl, id⟩

theorem geometryKept_takeEach (cs : List Instr) (s : State) :
    geometryKept s (s.takeEach (fun c s => (s.takeAtEstimator c).takeAtPlanner c) cs) := by
  induction cs generalizing s with
  | nil => exact ⟨rfl, rfl, id⟩
  | cons c cs ih =>
    have h1 : geometryKept s (((s.arrive c).takeAtEstimator c).takeAtPlanner c) := geometryKept_takeModes c (s.arrive c)
    exact h1.trans (ih _)

/-! ### Reports of a mode taken in their order -/

/-- Where a function reads one kind of report alone, the reports of that kind give all that it finds. -/
theorem filterMap_filter_of_kind {α : Type} {f : Instr → Option α} {kind : Instr → Bool}
    (hf : ∀ c, (f c).isSome = true → kind c = true) (l : List Instr) : (l.filter kind).filterMap f = l.filterMap f := by
  rw [List.filterMap_filter]
  refine congrArg (List.filterMap · l) (funext fun c => ?_)
  split
  · rfl
  · next hc => exact (Option.not_isSome_iff_eq_none.mp (mt (hf c) hc)).symm

section takeEach
variable {kind : Instr → Bool} {take : Instr → State → State} (hk : ∀ c, kind c = true → modeToEither c = true)
  (hkeep : ∀ c u, keepsModeReports u (take c u))
  (hstep : ∀ {t : State} {c : Instr}, kind c = true → (made → ∃ cs, t.reports.filter kind = c :: cs) →
    Change made plans s t → Change made plans s (take c (t.arrive c)))
include hk hkeep hstep

/-- The first reports of a kind, taken one after another, each as the first of its kind. -/
theorem Change.takeEachMode {cs rest : List Instr} (h : Change made plans s t) (hr : t.reports.filter kind = cs ++ rest) :
    Change made plans s (t.takeEach take cs) ∧ (t.takeEach take cs).reports.filter kind = rest := by
  induction cs generalizing t with
  | nil => exact ⟨h, hr⟩
  | cons c cs ih =>
    have hc : kind c = true := (List.mem_filter.mp (hr ▸ List.mem_cons_self : c ∈ t.reports.filter kind)).2
    refine ih (hstep hc (fun _ => ⟨_, hr⟩) h) ?_
    rw [(hkeep c (t.arrive c)).filter_eq hk, State.arrive_reports, ← List.erase_filter, hr]
    simp

/-- A report of a kind that is taken after those ahead of it (R160). -/
theorem Change.takeModeInOrder {c : Instr} (hc : kind c = true) (hm : made → c ∈ t.reports) (h : Change made plans s t) :
    Change made plans s (t.takeInOrder kind take c) := by
  unfold State.takeInOrder
  rw [filter_reportsAhead hc]
  obtain ⟨hnot, hall | ⟨after, hfront⟩⟩ := standsAhead_reportsAhead c (t.reports.filter kind)
  · obtain ⟨htaken, -⟩ := Change.takeEachMode hk hkeep hstep (rest := []) h
      (hall.trans (List.append_nil _).symm)
    refine hstep hc (fun hmade => absurd ?_ hnot) htaken
    rw [← hall]
    exact List.mem_filter.mpr ⟨hm hmade, hc⟩
  · obtain ⟨htaken, hrest⟩ := Change.takeEachMode hk hkeep hstep h hfront
    exact hstep hc (fun _ => ⟨_, hrest⟩) htaken

end takeEach

theorem eq_of_estimatorReportOf {c : Instr} {m : Mode} (h : estimatorReportOf c = some m) : c = .estimatorModeChange m := by
  unfold estimatorReportOf at h
  split at h <;> cases h
  rfl

theorem eq_of_plannerReportOf {c : Instr} {m : Mode} (h : plannerReportOf c = some m) : c = .plannerModeChange m := by
  unfold plannerReportOf at h
  split at h <;> cases h
  rfl

/-- The Estimator's share of a report that is the first of its kind. -/
theorem Change.takeAtEstimator {kind : Instr → Bool} (hk : ∀ c, modeToEstimator c = true → kind c = true) {c : Instr}
    (hr : made → ∃ cs, t.reports.filter kind = c :: cs) (hc : modeToEstimator c = true) (h : Change made plans s t) :
    Change made plans s ((t.arrive c).takeAtEstimator c) := by
  obtain ⟨m, hm⟩ := Option.isSome_iff_exists.mp hc
  obtain rfl := eq_of_estimatorReportOf hm
  change Change made plans s ((t.arrive (.estimatorModeChange m)).estimatorMode m)
  rw [State.estimatorMode_frame]
  refine h.trans (.estimatorTakes m _ _ t (fun hmade => ?_) rfl (keepsModeReports_estimatorMode m _).2)
  obtain ⟨cs, hcs⟩ := hr hmade
  rw [← filterMap_filter_of_kind hk, hcs]
  rfl

/-- The Planner's. -/
theorem Change.takeAtPlanner {kind : Instr → Bool} (hp : plans) (hk : ∀ c, modeToPlanner c = true → kind c = true) {c : Instr}
    (hr : made → ∃ cs, t.reports.filter kind = c :: cs) (hc : modeToPlanner c = true) (h : Change made plans s t) :
    Change made plans s ((t.arrive c).takeAtPlanner c) := by
  obtain ⟨m, hm⟩ := Option.isSome_iff_exists.mp hc
  obtain rfl := eq_of_plannerReportOf hm
  refine h.plannerMode hp fun hmade => ?_
  obtain ⟨cs, hcs⟩ := hr hmade
  rw [← filterMap_filter_of_kind hk, hcs]
  rfl

/-- A report goes to one of the two alone. -/
theorem takeModes_of_estimator {c : Instr} (hc : modeToEstimator c = true) (s : State) :
    (s.takeAtEstimator c).takeAtPlanner c = s.takeAtEstimator c := by
  obtain ⟨m, hm⟩ := Option.isSome_iff_exists.mp hc
  obtain rfl := eq_of_estimatorReportOf hm
  rfl

theorem takeModes_of_planner {c : Instr} (hc : modeToPlanner c = true) (s : State) :
    (s.takeAtEstimator c).takeAtPlanner c = s.takeAtPlanner c := by
  obtain ⟨m, hm⟩ := Option.isSome_iff_exists.mp hc
  obtain rfl := eq_of_plannerReportOf hm
  rfl

theorem modeToEither_iff {c : Instr} : modeToEither c = true ↔ modeToEstimator c = true ∨ modeToPlanner c = true :=
  Bool.or_eq_true_iff

theorem keepsModeReports_takeModes (c : Instr) (s : State) :
    keepsModeReports s ((s.takeAtEstimator c).takeAtPlanner c) :=
  (keepsModeReports_takeAtEstimator c s).trans (keepsModeReports_takeAtPlanner c _)

/-- All reports of a mode under way are taken (log entry 52); none is left. -/
theorem Change.settleModes (hp : plans) (h : Change made plans s t) :
    Change made plans s t.settleModes ∧ t.settleModes.reports.filter modeToEither = [] := by
  refine Change.takeEachMode (fun _ hc => hc) (fun c u => keepsModeReports_takeModes c u) (fun hc hr h => ?_) h
    (List.append_nil _).symm
  rcases modeToEither_iff.mp hc with he | hq
  · rw [takeModes_of_estimator he]
    exact h.takeAtEstimator (fun x hx => modeToEither_iff.mpr (.inl hx)) hr he
  · rw [takeModes_of_planner hq]
    exact h.takeAtPlanner hp (fun x hx => modeToEither_iff.mpr (.inr hx)) hr hq

/-- A geometry request whose conditions hold finds the geometry free to change. -/
theorem geometryFree_settleModes (hs : t.geometryRefused = none) (h : Change made plans s t) (hp : plans) :
    geometryFree t.settleModes := by
  obtain ⟨hmodes, hcommit, hbuild⟩ := geometryKept_takeEach (t.reports.filter modeToEither) t
  unfold State.geometryRefused at hs
  split at hs
  · cases hs
  next hmode =>
  split at hs
  · cases hs
  next hidle =>
  simp only [Bool.or_eq_true, not_or, Bool.not_eq_true, Option.isSome_eq_false_iff, Option.isNone_iff_eq_none] at hidle
  obtain ⟨⟨hnone, -⟩, hpend⟩ := hidle
  refine ⟨?_, hcommit.trans hpend, (Change.settleModes hp h).2, ?_⟩
  · exact (congrArg ModeController.mode hmodes).trans (Classical.not_not.mp hmode)
  · have hnow := hbuild fun b hb => by simp [hnone] at hb
    match hb : t.settleModes.planner.build with
    | none => exact .inl rfl
    | some b => exact .inr (hnow b hb).2

/-- A geometry request. -/
theorem Change.geometryRequest (hp : plans) {α : Type} (a : Option α) (ok : α → Bool) (f : α → State → State)
    (h : Change made plans s t)
    (hf : ∀ x u, ok x = true → geometryFree u → Change made plans u ((f x u).onTables fun k => { k with valid := false })) :
    Change made plans s (t.geometry a ok f).1 := by
  unfold State.geometry
  split
  · exact h
  · exact h
  · next hs =>
    split
    · next hok => exact (Change.settleModes hp h).1.trans (hf _ _ hok (geometryFree_settleModes hs h hp))
    · exact h

/-! ### Requests -/

/-- The commands that may touch the Planner's latch. -/
def mayTouchLatch : Instr → Bool
  | .retargetTrigger _ | .holdReport _ | .commitStateReport _ | .plannerModeChange _ | .install | .previewCompletion
  | .setTurbine _ _ | .clearTurbine _ _ | .setRow _ _ | .setSectors _ _ | .resetAssertion | .startUp _ _ _
  | .transmissionEnd _ => true
  | _ => false

theorem Change.handed {c : Instr} {h : ReqHead} {u : Nat} {work : State → State}
    (hw : ∀ {t : State}, Change made plans s t → Change made plans s (work t)) :
    ∃ t, s.handed c h u work = .next t ∧ Change made plans s t := by
  refine ⟨_, rfl, ?_⟩
  split
  · exact .refl s
  · next hs =>
    have htaken := (Change.refl (made := made) (plans := plans) s).takeRequest hs
    repeat' split
    · exact htaken.answer _ _ _ _
    · exact htaken.answer _ _ _ _
    · exact hw htaken

theorem Change.atOnce {c : Instr} {h : ReqHead} {u : Nat} {work : State → Answer}
    (hw : ∀ {t : State}, Change made plans s t → Change made plans s (work t).1) :
    ∃ t, s.atOnce c h u work = .next t ∧ Change made plans s t :=
  Change.handed fun ht => (hw ht).answer _ _ _ _

/-- A request that reads. -/
theorem Change.atOnce_readOnly {c : Instr} {h : ReqHead} {u : Nat} (a : Option Unit) (r : State → List Byte) :
    ∃ t, s.atOnce c h u (readOnly a r) = .next t ∧ Change made plans s t :=
  Change.atOnce fun ht => by cases a <;> exact ht

theorem Change.event {f : State → State} (hf : Change made plans s s → Change made plans s (f s)) :
    ∃ t, State.event f s = .next t ∧ Change made plans s t := by
  refine ⟨_, rfl, ?_⟩
  split
  · exact hf (.refl s)
  · exact .refl s

theorem Change.reported {c : Instr} {f : State → State} (hc : modeToEither c = false)
    (hf : ∀ {t : State}, Change made plans s t → Change made plans s (f t)) :
    ∃ t, State.reported c f s = .next t ∧ Change made plans s t :=
  Change.event fun h => hf (h.arrive hc)

end Sys2Proof.Machine
end

/-! PROOFS. `exec_change`: one arm for each command. -/

section
namespace Sys2Proof.Machine

variable {made plans : Prop} {s t : State}

/-! ### Requests whose work is more than one elementary change -/

theorem Change.tableWrite {α : Type} (a : Option α) (ok : α → Bool) (f : α → Bank → Bank)
    (hf : ∀ x k, bankCanonical k → bankCanonical (f x k)) (h : Change made plans s t) :
    Change made plans s (t.tableWrite a ok f).1 := by
  unfold State.tableWrite
  split
  · exact h
  · exact h
  · next hw =>
    have hopen : t.tables.commitPending = false := by
      unfold TableStore.writeRefused at hw
      repeat' split at hw
      · cases hw
      · cases hw
      · exact eq_false_of_ne_true ‹_›
    split
    · exact h.trans (.shadow _ _ hopen (hf _))
    · exact h

theorem Bank.writeRun_canonical (n b page start : Nat) (vs : List Int) (i : Nat) {k : Bank} (h : bankCanonical k) :
    bankCanonical (Bank.writeRun n b page start i vs k) := by
  induction vs generalizing i k with
  | nil => exact h
  | cons v vs ih => exact ih (i + 1) ⟨Table.wf_set _ _ _ _ h.1, h.2⟩

theorem Fleet.setTurbine_canonical (i a : Nat) {f : Fleet} (h : fleetCanonical f) : fleetCanonical (f.setTurbine i a) := by
  obtain ⟨hstatic, hdynamic, hrow⟩ := h
  unfold Fleet.setTurbine
  dsimp only
  repeat' split
  · exact ⟨Table.wf_set _ _ _ _ hstatic, Table.wf_set _ _ _ _ hdynamic, hrow⟩
  · exact ⟨hstatic, hdynamic, hrow⟩
  · exact ⟨Table.wf_set _ _ _ _ hstatic, Table.wf_set _ _ _ _ hdynamic, hrow⟩

theorem Fleet.clearTurbine_canonical (i : Nat) {f : Fleet} (h : fleetCanonical f) : fleetCanonical (f.clearTurbine i) := by
  obtain ⟨hstatic, hdynamic, hrow⟩ := h
  unfold Fleet.clearTurbine
  split
  · exact ⟨Table.wf_set _ _ _ _ hstatic, Table.wf_set _ _ _ _ hdynamic, Table.wf_set _ _ _ _ hrow⟩
  · exact ⟨Table.wf_set _ _ _ _ hstatic, Table.wf_set _ _ _ _ hdynamic, hrow⟩

theorem Fleet.setRow_canonical (r : Nat) (w : Row) {f : Fleet} (h : fleetCanonical f) : fleetCanonical (f.setRow r w) :=
  ⟨h.1, h.2.1, Table.wf_set _ _ _ _ h.2.2⟩

/-- A geometry request to the Fleet Table. -/
theorem Change.fleetRequest (hp : plans) {α : Type} (a : Option α) (ok : α → Bool) (f : α → Fleet → Fleet)
    (hf : ∀ x (k : Fleet), fleetCanonical k → fleetCanonical (f x k)) (h : Change made plans s t) :
    Change made plans s (t.geometry a ok fun x => State.onFleet (f x)).1 :=
  h.geometryRequest hp a ok _ fun _ _ _ hu => .geometry _ _ hu (hf _ _)

/-- A static field of a turbine's record. -/
theorem Change.setStatic (h : Change made plans s t) (i : Nat) (d : TurbineStatic) :
    Change made plans s (t.onFleet (Fleet.setStatic i d)) := h.trans (.static _ _ _)

theorem Change.clearFault (h : Change made plans s t) (i : Nat) : Change made plans s (t.onFleet (Fleet.clearFault i)) := by
  have hfleet : t.onFleet (Fleet.clearFault i) =
      if (t.fleet.dynamic i).availability = .fault then t.onFleet (Fleet.setDynamic i { t.fleet.dynamic i with
        availability := if (t.fleet.dynamic i).stale.isSome then .online else .stale }) else t := by
    unfold State.onFleet Fleet.clearFault
    dsimp only
    split <;> rfl
  rw [hfleet]
  split
  · exact h.setDynamic _ _
  · exact h

/-- A parameter of the Estimator other than the sector count. -/
theorem Change.windParams (h : Change made plans s t) (p : WindParams) (hs : p.sectors = t.wind.params.sectors)
    (hb : t.wind.params.beta ≤ 255 → p.beta ≤ 255) :
    Change made plans s (t.onWind fun w => { w with params := p }) := h.trans (.params p t hs hb)

theorem Change.setWindParams (h : Change made plans s t) (x : SetWindParamsArgs) (hx : windRangesOk x = true) :
    Change made plans s (t.onWind fun w => { w with params := { w.params with
      alpha := x.alpha, beta := x.beta, outlierLimit := x.outlierLimit, wRef := x.wRef, wStale := x.wStale
      dwell := x.dwell, hysteresis := x.hysteresis } }) := by
  refine h.windParams { t.wind.params with
    alpha := x.alpha, beta := x.beta, outlierLimit := x.outlierLimit, wRef := x.wRef, wStale := x.wStale
    dwell := x.dwell, hysteresis := x.hysteresis } rfl fun _ => ?_
  simp only [windRangesOk, Bool.and_eq_true, within_iff] at hx
  exact hx.1.1.1.1.1.2.2

theorem Change.commitRequest (a : Option Unit) (h : Change made plans s t) : Change made plans s
    (match a with
      | none => refuse .badArg t
      | some _ =>
        if t.tables.refill.isSome then refuse .busy t
        else if t.tables.commitPending then refuse .pending t
        else match t.validate (t.tables.bank t.tables.shadow) with
          | some sector => (t, .invalidTables, u16 sector)
          | none =>
            if t.tables.swapReady then accept (t.swap false)
            else (t.becomePending, .pending, [])).1 := by
  cases a with
  | none => exact h
  | some _ =>
    dsimp only
    split
    · exact h
    · next hr =>
      split
      · exact h
      · split
        · exact h
        · next hv =>
          split
          · exact h.swapped _ (.inr hv)
          · exact h.becomePending (Option.not_isSome_iff_eq_none.mp hr) hv

theorem Change.withdrawCommit (h : Change made plans s t) :
    Change made plans s ((t.onTables fun k => { k with commitPending := false }).report (.commitStateReport false)) :=
  (h.trans (.cancel t)).report rfl

theorem Change.setBudgets (h : Change made plans s t) (x : SetBudgetsArgs) (hx : budgetsOk x = true) : Change made plans s
    (t.onGate fun g => { g with budgets := x.bands, urgentBudget := x.urgent, scanDue := true }) := by
  simp only [budgetsOk, Bool.and_eq_true, within_iff, List.all_eq_true] at hx
  refine h.onGate (GateChange.trans (.budgets x.bands x.urgent _ (fun b hb => (hx.1.2 b hb).2) hx.2.2)
    (.aux rfl rfl rfl rfl rfl rfl))

/-- A trim written by WRITE_TRIM, in its range. -/
theorem Change.writeTrim (h : Change made plans s t) (k v : Nat) (hv : within 32 128 v = true) : Change made plans s
    (t.onMonitor fun m => { m with trims := m.trims.set 64 k v }) := h.trans (.trim k v t fun _ => within_iff.mp hv)

theorem Change.setPlanParams (h : Change made plans s t) (p : PlanParams) :
    Change made plans s (t.onPlanner fun q => { q with params := p }) :=
  h.trans (.planner _ t rfl rfl (.inr (.inl rfl)))

/-- RETARGET triggers the candidate pair in a mode that steers. -/
theorem Change.retargetRequest (a : Option Unit) (h : Change made plans s t) : Change made plans s
    (if t.planner.build.isSome then refuse .busy t
      else match a with
        | none => refuse .badArg t
        | some _ =>
          if !steering t.modes.mode then refuse .badMode t
          else if !t.wind.valid then refuse .noEstimate t
          else match t.wind.candidate with
            | none => refuse .noEstimate t
            | some p => (t.trigger p, .ok, encPair p)).1 := by
  cases a with
  | none => split <;> exact h
  | some _ =>
    dsimp only
    split
    · exact h
    · split
      · exact h
      · next hm =>
        split
        · exact h
        · split
          · exact h
          · next hp => exact h.trigger _ (.inr ⟨by simpa using hm, hp⟩)

/-- A preview that is not refused reads a VALID bank (R103). -/
theorem State.previewRefused_none {a : Option Pair} (h : t.previewRefused a = none) : t.tables.valid = true := by
  unfold State.previewRefused at h
  repeat' split at h
  all_goals cases h
  next hv => simpa using hv

/-! ### What a sample leaves -/

/-- What the Gate does with a sample touches the Gate, the turbine's record, the reports and the notices alone. -/
def onlyGate (s t : State) : Prop :=
  t = { s with gate := t.gate, fleet := t.fleet, reports := t.reports, notices := t.notices }

theorem onlyGate.rfl {s : State} : onlyGate s s := Eq.refl s

theorem onlyGate.trans {s t u : State} (h1 : onlyGate s t) (h2 : onlyGate t u) : onlyGate s u := by
  unfold onlyGate at *
  rw [h2, h1]

theorem onlyGate.line {s t : State} (h : onlyGate s t) : t.line = s.line := by rw [h]

theorem onlyGate_onGate (f : Gate → Gate) (s : State) : onlyGate s (s.onGate f) := Eq.refl _

theorem onlyGate_report (c : Instr) (s : State) : onlyGate s (s.report c) := Eq.refl _

theorem onlyGate_notify (n : Notice) (s : State) : onlyGate s (s.notify n) := Eq.refl _

theorem onlyGate_testCompletion (s : State) : onlyGate s s.testCompletion := by
  unfold State.testCompletion
  repeat' split
  all_goals exact Eq.refl _

theorem onlyGate_recordFinished (r : MoveRecord) (o : UrgentOutcome) (s : State) : onlyGate s (s.recordFinished r o) := by
  unfold State.recordFinished
  split
  · split
    · exact onlyGate_testCompletion s
    · exact .rfl
  · dsimp only
    split
    · exact onlyGate_report _ s
    · exact (onlyGate_report _ s).trans (onlyGate_report _ _)

theorem onlyGate_settle (f : Flight) (s : State) : onlyGate s (s.settle f) := by
  unfold State.settle
  dsimp only
  repeat' split
  · exact Eq.refl _
  · exact (onlyGate_onGate _ s).trans ((onlyGate_onGate _ _).trans (onlyGate_recordFinished _ _ _))
  · exact Eq.refl _

theorem onlyGate_abortPlan (p : Plan) (c : AbortCause) (s : State) : onlyGate s (s.abortPlan p c) :=
  (onlyGate_onGate _ s).trans ((onlyGate_onGate _ _).trans ((onlyGate_onGate _ _).trans ((onlyGate_report _ _).trans
    ((onlyGate_report _ _).trans (onlyGate_notify _ _)))))

theorem onlyGate_chargeFailure (s : State) : onlyGate s s.chargeFailure := by
  unfold State.chargeFailure
  split
  · exact .rfl
  · dsimp only
    split
    · exact (onlyGate_onGate _ s).trans (onlyGate_abortPlan _ _ _)
    · exact (onlyGate_onGate _ s).trans ((onlyGate_notify _ _).trans (onlyGate_testCompletion _))

theorem onlyGate_failureFollows (f : Flight) (c : FinishCause) (s : State) : onlyGate s
    (let u := (s.onFleet (Fleet.failureReported f.turbine)).notify (.moveFailed f.record f.turbine c f.target)
     match f.fate with
     | .own => u.chargeFailure
     | .urgent =>
       let u := u.report (.urgentFinishReport .failed)
       if u.gate.urgentUnfinished then u else u.report .unwindEnd
     | .superseded | .aborted => u) := by
  have hmoved : onlyGate s ((s.onFleet (Fleet.failureReported f.turbine)).notify
      (.moveFailed f.record f.turbine c f.target)) := Eq.refl _
  cases f.fate
  · exact hmoved.trans (onlyGate_chargeFailure _)
  · refine hmoved.trans ((onlyGate_report (.urgentFinishReport .failed) _).trans ?_)
    dsimp only
    split
    · exact .rfl
    · exact onlyGate_report _ _
  · exact hmoved
  · exact hmoved

theorem onlyGate_fail (f : Flight) (c : FinishCause) (s : State) : onlyGate s (s.fail f c) := by
  unfold State.fail
  refine onlyGate.trans ?_ (onlyGate_failureFollows f c _)
  split
  · exact (onlyGate_onGate (Gate.endFlight f) s).trans (onlyGate_onGate _ _)
  · exact onlyGate_onGate _ s

theorem onlyGate_segmentSampled (i : Nat) (y : YawState) (a : Int) (s : State) : onlyGate s (s.segmentSampled i y a) := by
  unfold State.segmentSampled
  repeat' split
  · exact .rfl
  · exact onlyGate_fail _ _ s
  · exact onlyGate_fail _ _ s
  · exact .rfl
  · exact onlyGate_settle _ s
  · exact .rfl
  · exact .rfl

@[simp] theorem State.handBias_line (i : Nat) (v : Int) (b : Bool) (s : State) : (s.handBias i v b).line = s.line := by
  unfold State.handBias
  dsimp only
  repeat' split
  all_goals rfl

@[simp] theorem State.intake_line (i : Nat) (x : Sample) (s : State) : (s.intake i x).line = s.line := by
  have href : ∀ u : State, (u.handReference i x).line = u.line := fun u => by
    unfold State.handReference
    split <;> rfl
  have harr : ∀ u : State, (u.handArrival i x).line = u.line := fun u => by
    unfold State.handArrival
    split <;> rfl
  have hyaw : ∀ u : State, (u.handYaw i x).line = u.line := fun u => by
    unfold State.handYaw
    split
    · exact (onlyGate_segmentSampled _ _ _ u).line
    · rfl
  unfold State.intake
  split
  · rw [hyaw, harr, href]
    rfl
  · rfl

/-! ### Frames received and the RESTART reply -/

theorem Change.receiveBias (h : Change made plans s t) (f : Frame) (x : Telegram) :
    Change made plans s (t.receiveBias f x) := by
  unfold State.receiveBias
  split
  · exact h
  · next hfull =>
    split
    · exact h.joinForward _ _ (eq_false_of_ne_true hfull)
    · exact (h.handBias _ _ _).joinForward _ _ (by rw [State.handBias_line]; exact eq_false_of_ne_true hfull)

theorem Change.receiveSample (h : Change made plans s t) (i : Nat) (f : Frame) (x : Telegram) :
    Change made plans s (t.receiveSample i f x) := by
  unfold State.receiveSample
  split
  · exact h
  · next hfull =>
    exact (h.intake i _).joinForward _ _ (by rw [State.intake_line]; exact eq_false_of_ne_true hfull)

theorem Change.classify (h : Change made plans s t) (p : Port) (f : Frame) (x : Telegram) :
    Change made plans s (t.classify p f x) := by
  cases p
  · change Change made plans s (t.classifyS f x)
    unfold State.classifyS
    repeat' split
    · exact h.offerRequest _
    · exact h.receiveBias f x
    · exact h.forwardFrame _ f
  · change Change made plans s (t.classifyF f x)
    unfold State.classifyF
    repeat' split
    · exact h
    · exact h.receiveSample _ f x
    · exact h.forwardFrame _ f
    · exact h.forwardFrame _ f

theorem Change.pauseReceived (h : Change made plans s t) (p : Port) (q : Nat) :
    Change made plans s (t.pauseReceived p q) := by
  unfold State.pauseReceived
  repeat' split
  · exact h.onLine fun hl => hl.setPort _ _
  · exact h.endPause p
  · exact h

theorem Change.receiveGood (h : Change made plans s t) (p : Port) (f : Frame) : Change made plans s (t.receiveGood p f) := by
  unfold State.receiveGood
  repeat' split
  · exact h.pauseReceived p _
  · exact h
  · exact h.classify p f _
  · exact h.forwardFrame p f
  · exact h.forwardFrame p f

theorem Change.transmissionEnded (h : Change made plans s t) (hp : plans) (p : Port) (x : Transmission) :
    Change made plans s (t.transmissionEnded p x) := by
  have hfree : Change made plans s (t.onLine fun l => l.setPort p { l.port p with transmission := none }) :=
    h.onLine fun hl => hl.setPort _ _
  unfold State.transmissionEnded
  refine Change.arbitrate ?_ p
  split
  · exact hfree.trans (.restart _ hp)
  · exact hfree

theorem Change.linePathMode (h : Change made plans s t) (m : Mode) : Change made plans s (t.linePathMode m) := by
  have hmode : Change made plans s (t.onLine fun l => { l with modeIn := m }) := h.onLine fun hl => hl
  unfold State.linePathMode
  dsimp only
  split
  · exact hmode.purgeInjections
  · exact hmode

/-! ### Start-up -/

theorem Change.sampleLines (h : Change made plans s t) (x y : Level) : Change made plans s (t.sampleLines x y) := by
  have hlines := h.onModes (f := fun m => { m with
    storm := .afresh m.storm.config x, gridhold := .afresh m.gridhold.config y }) rfl rfl
  unfold State.sampleLines
  dsimp only
  split
  · exact hlines.setLineHold true
  · exact hlines

/-- Only an image whose content is judged good is loaded (R186). -/
theorem contentOk_of_judgeMemory {a : Bool} {m : Option ImageBlock} {i : Image} (h : (judgeMemory a m).2 = some i) :
    i.contentOk = true := by
  unfold judgeMemory at h
  split at h
  · next b =>
    dsimp only at h
    split at h
    · next hv =>
      cases h
      exact (ImageBlock.judge_valid.mp hv).2.2.2
    · cases h
  · cases h
  · cases h

theorem Change.startUp (hp : plans) (a : Bool) (x y : Level) (h : Change made plans s t) :
    Change made plans s (t.startUp a x y) := by
  unfold State.startUp
  refine Change.sampleLines ?_ x y
  split
  · next i hi => exact h.trans (.load i _ t hp (contentOk_of_judgeMemory hi))
  · exact h.trans (.factory true _ t hp)

/-! ### The arms -/

/-- What every command is made of. -/
theorem exec_change (c : Instr) (s : State) :
    ∃ t, exec c s = .next t ∧ Change (modeToEither c = true → c ∈ s.reports) (mayTouchLatch c = true) s t := by
  cases c with
  | frameReception p f => exact Change.event fun h => by split; exact h.receiveGood p f; exact h
  | pauseExpiry p => exact Change.event fun h => by split; exact h.endPause p; exact h
  | transmissionEnd p =>
    dsimp only [exec, execTransmissionEnd]
    refine Change.event fun h => ?_
    split
    · exact h.transmissionEnded rfl _ _
    · exact h
  | roomEvent => exact Change.reported rfl fun h => h.roomTaken
  | staleExpiry i => exact Change.event fun h => h.expire _ fun h => h.trans (.dynamic _ _ _)
  | referenceSample r => exact Change.event fun h => h.trans (.sample _ _ _ _)
  | freshnessExpiry => exact Change.event fun h => h.expire _ fun h => h.trans (.freshness _)
  | dwellExpiry => exact Change.event fun h => h.expire _ fun h => h.dwellExpired
  | retargetTrigger p => exact Change.reported rfl fun h => (h.trans (.latch (some p) _ rfl)).tryBuild rfl
  | install =>
    dsimp only [exec, execInstall]
    refine Change.event fun h => ?_
    split
    · exact h
    · split
      · exact h.installed rfl _
      · exact h
  | previewCompletion => exact Change.event fun h => h.previewCompleted rfl
  | waveRelease => exact Change.event fun h => h.nextWaveReleased
  | arbiterScan => exact Change.event fun h => by split; exact h.scan; exact h
  | segmentSample i y a => exact Change.event fun h => h.segmentSampled i y a
  | timeoutExpiry i =>
    refine Change.event fun h => h.expire _ fun h => ?_
    split
    · exact h.fail _ _
    · exact h
  | simulatedSettleExpiry i =>
    refine Change.event fun h => h.expire _ fun h => ?_
    split
    · exact h.settle _
    · exact h
  | refreshExpiry i => exact Change.event fun h => h.expire _ fun h => h.refreshExpired i
  | swapConditionReport r => exact Change.event fun h => h.takeConditions r
  | refillCompletion => exact Change.event fun h => h.refillCompleted
  | holdReport b =>
    dsimp only [exec, execHoldReport]
    exact Change.reported rfl fun h => Change.tryBuild (h.trans (.planner _ _ rfl rfl (.inr (.inl rfl)))) rfl
  | commitStateReport b =>
    dsimp only [exec, execCommitStateReport]
    exact Change.reported rfl fun h => Change.tryBuild (h.trans (.planner _ _ rfl rfl (.inr (.inl rfl)))) rfl
  | installReport i => exact Change.event fun h => h.takenAtMonitor rfl
  | releaseReport p w => exact Change.event fun h => h.takenAtMonitor rfl
  | watchArming p w => exact Change.event fun h => h.takenAtMonitor rfl
  | arrivalSample r p x => exact Change.event fun h => h.onMonitor (Monitor.arrival_trims _ _ _ _)
  | windowExpiry k => exact Change.event fun h => h.expire _ fun h => h.onMonitor rfl
  | abortReport p => exact Change.event fun h => h.takenAtMonitor rfl
  | completionReport p => exact Change.event fun h => h.takenAtMonitor rfl
  | linePathModeChange m => exact Change.reported rfl fun h => h.linePathMode m
  | estimatorModeChange m =>
    exact Change.event fun h => Change.takeModeInOrder (fun _ hc => modeToEither_iff.mpr (.inl hc))
      (fun _ _ => keepsModeReports_takeAtEstimator _ _) (fun hc hr h => h.takeAtEstimator (fun _ hx => hx) hr hc) rfl
      (fun hm => hm rfl) h
  | plannerModeChange m =>
    exact Change.event fun h => Change.takeModeInOrder (fun _ hc => modeToEither_iff.mpr (.inr hc))
      (fun _ _ => keepsModeReports_takeAtPlanner _ _) (fun hc hr h => h.takeAtPlanner rfl (fun _ hx => hx) hr hc) rfl
      (fun hm => hm rfl) h
  | unwindEntry => exact Change.reported (c := .unwindEntry) rfl fun h => h.enterUnwind
  | offEntry => exact Change.reported (c := .offEntry) rfl fun h => h.enterOff
  | upkeepModeChange m => exact Change.reported rfl fun h => h.onUpkeep fun hu => Upkeep.enter_canonical hu m
  | unwindFigures p n => exact Change.event fun h => h.takenAtModes rfl
  | urgentFinishReport o => exact Change.event fun h => h.takenAtModes rfl
  | unwindEnd => exact Change.event fun h => h.takenAtModes rfl
  | lineLevelChange l v => exact Change.event fun h => h.lineChanged l v
  | gridholdReport b => exact Change.reported rfl fun h => h.setLineHold b
  | noticeEntry n =>
    dsimp only [exec, execNoticeEntry]
    exact Change.event fun h => (h.trans (.free _ _ _ (s.notices.erase n) _)).enterNotice _
  | saveEnd o => exact Change.event fun h => h.saveEnded o
  | resetAssertion => exact ⟨_, rfl, .factory false _ s rfl⟩
  | startUp a x y =>
    refine ⟨_, rfl, ?_⟩
    split
    · exact .refl s
    · exact Change.startUp rfl a x y (.refl s)
  | unknownRequest r =>
    refine ⟨_, rfl, ?_⟩
    split
    · exact .refl s
    · next hs =>
      have htaken := (Change.refl (made := (modeToEither (.unknownRequest r) = true → .unknownRequest r ∈ s.reports))
        (plans := (mayTouchLatch (.unknownRequest r) = true)) s).takeRequest hs
      split
      · exact htaken.answer _ _ _ _
      · exact .refl s
  | setTurbine h a =>
    exact Change.atOnce fun ht => ht.fleetRequest rfl a _ (fun x => Fleet.setTurbine x.1 x.2)
      fun _ _ hk => Fleet.setTurbine_canonical _ _ hk
  | clearTurbine h a =>
    exact Change.atOnce fun ht => ht.fleetRequest rfl a _ Fleet.clearTurbine fun _ _ hk => Fleet.clearTurbine_canonical _ hk
  | setRow h a =>
    exact Change.atOnce fun ht => ht.fleetRequest rfl a _ (fun x => Fleet.setRow x.row ⟨x.members, x.arrivalRef⟩)
      fun _ _ hk => Fleet.setRow_canonical _ _ hk
  | setReference h a =>
    refine Change.atOnce fun ht => ?_
    repeat' split
    · exact ht
    · exact ht.trans (.static _ _ _)
    · exact ht
  | setCorrection h a =>
    refine Change.atOnce fun ht => ?_
    repeat' split
    · exact ht
    · exact ht.trans (.static _ _ _)
    · exact ht
  | clearFault h a =>
    refine Change.atOnce fun ht => ?_
    repeat' split
    · exact ht
    · exact ht.clearFault _
    · exact ht
  | readTurbine h a =>
    refine Change.atOnce fun ht => ?_
    repeat' split
    all_goals exact ht
  | readRow h a =>
    refine Change.atOnce fun ht => ?_
    repeat' split
    all_goals exact ht
  | setWindParams h a =>
    refine Change.atOnce fun ht => ?_
    repeat' split
    · exact ht
    · next hx => exact ht.setWindParams _ hx
    · exact ht
  | setBands h a =>
    refine Change.atOnce fun {t} ht => ?_
    repeat' split
    · exact ht
    · next x _ => exact ht.windParams { t.wind.params with thresholds := x.thresholds, hs := x.hs } rfl id
    · exact ht
  | setSectors h a =>
    exact Change.atOnce fun ht => ht.geometryRequest rfl a _ _ fun n _ hn hu => .sectors n _ hu hn
  | readEstimate h a => exact Change.atOnce_readOnly a _
  | writeOffsets h a => exact Change.atOnce fun ht => ht.tableWrite a _ _ fun _ _ hk => Bank.writeRun_canonical _ _ _ _ _ _ hk
  | writeSector h a => exact Change.atOnce fun ht => ht.tableWrite a _ _ fun _ _ hk => ⟨hk.1, Table.wf_set _ _ _ _ hk.2⟩
  | readOffsets h a =>
    refine Change.atOnce fun ht => ?_
    repeat' split
    all_goals exact ht
  | readSector h a =>
    refine Change.atOnce fun ht => ?_
    repeat' split
    all_goals exact ht
  | commit h a => exact Change.atOnce fun ht => ht.commitRequest a
  | cancelCommit h a =>
    refine Change.atOnce fun ht => ?_
    repeat' split
    · exact ht
    · exact ht.withdrawCommit
    · exact ht
  | readTableState h a => exact Change.atOnce_readOnly a _
  | setPlanParams h a =>
    refine Change.atOnce fun ht => ?_
    repeat' split
    · exact ht
    · exact ht
    · exact ht
    · exact ht
    · exact ht.setPlanParams _
  | retarget h a => exact Change.atOnce fun ht => ht.retargetRequest a
  | preview h a =>
    refine Change.handed fun ht => ?_
    split
    · exact ht.answer _ _ _ _
    · next hr => exact ht.startPreview h _ (State.previewRefused_none hr)
    · exact ht
  | readPreview h a =>
    refine Change.atOnce fun ht => ?_
    repeat' split
    all_goals exact ht
  | hold h a =>
    refine Change.atOnce fun ht => ?_
    split
    · exact ht
    · exact ht.setRequestHold true
  | resume h a =>
    refine Change.atOnce fun ht => ?_
    repeat' split
    · exact ht
    · exact ht
    · exact ht.setRequestHold false
    · exact ht.setRequestHold false
  | setBudgets h a =>
    refine Change.atOnce fun ht => ?_
    repeat' split
    · exact ht
    · next hx => exact ht.setBudgets _ hx
    · exact ht
  | readPlan h a => exact Change.atOnce_readOnly a _
  | readMoves h a =>
    refine Change.atOnce fun ht => ?_
    split
    all_goals exact ht
  | enable h a =>
    refine Change.atOnce fun ht => ?_
    repeat' split
    · exact ht
    · exact ht
    · exact ht
    · exact ht
    · next hv _ => exact ht.changeMode _ _ _ (fun _ => by simpa using hv) fun hu => by cases hu
  | dry h a =>
    refine Change.atOnce fun ht => ?_
    repeat' split
    · exact ht
    · exact ht
    · exact ht
    · next hv => exact ht.changeMode _ _ _ (fun _ => by simpa using hv) fun hu => by cases hu
  | disable h a =>
    refine Change.atOnce fun ht => ?_
    split
    · exact ht
    · exact ht.disable
  | unwind h a =>
    refine Change.atOnce fun ht => ?_
    repeat' split
    · exact ht
    · next hm => exact ht.beginUnwind _ hm
    all_goals exact ht
  | setLines h a =>
    refine Change.atOnce fun ht => ?_
    repeat' split
    · exact ht
    · exact ht
    · exact ht.setLines _ _
  | readMode h a => exact Change.atOnce_readOnly a _
  | setArrival h a =>
    refine Change.atOnce fun {t} ht => ?_
    repeat' split
    · exact ht
    · next x _ => exact ht.trans (.monitor { t.monitor with theta := x.theta, tau := x.tau, learning := x.learning } t rfl)
    · exact ht
  | readTrims h a => exact Change.atOnce_readOnly a _
  | writeTrim h a =>
    refine Change.atOnce fun ht => ?_
    repeat' split
    · exact ht
    · next hx => exact ht.writeTrim _ _ (Bool.and_eq_true_iff.mp hx).2
    · exact ht
  | readArrivals h a =>
    refine Change.atOnce fun ht => ?_
    split
    all_goals exact ht
  | setLink h a =>
    refine Change.handed fun ht => ?_
    repeat' split
    · exact ht.answer _ _ _ _
    · exact ht.answer _ _ _ _
    · exact (ht.onLine fun hl => hl).placeReply _
  | setNotices h a =>
    refine Change.atOnce fun ht => ?_
    repeat' split
    · exact ht
    · next x _ => exact ht.onDispatcher fun d => { d with destinations := x.destinations, fold := x.fold }
    · exact ht
  | readLink h a => exact Change.atOnce_readOnly a _
  | saveImage h a =>
    refine Change.handed fun ht => ?_
    repeat' split
    · exact ht.answer _ _ _ _
    · exact ht.answer _ _ _ _
    · exact ht.startSave h
  | readImageState h a =>
    refine Change.atOnce fun ht => ?_
    repeat' split
    all_goals exact ht
  | identify h a => exact Change.atOnce_readOnly a _
  | restart h a =>
    refine Change.handed fun ht => ?_
    split
    · exact ht.answer _ _ _ _
    · exact (ht.onDispatcher _).placeReply _
  | gateModeChange m => exact Change.reported rfl fun h => h.onGateAux
  | arrivalMonitorModeChange m => exact Change.reported rfl fun h => h.onMonitor rfl

end Sys2Proof.Machine
end

/-! PROOFS. What a step keeps: `step_change`, the commands' own obligations O1 and O2, and the invariants of the Estimator (O23) and
of the yaw slots (O47). -/

section
namespace Sys2Proof.Machine

variable {made plans : Prop} {s t : State}

/-! ### A step -/

theorem Change.pending_eq (h : Change made plans s t) : t.pending = s.pending := by
  induction h with
  | trans _ _ ih1 ih2 => exact ih2.trans ih1
  | _ => rfl

theorem modeToEither_requestInstr (r : Request) : modeToEither (requestInstr r) = false := by
  have hknown : ∀ c, requestCommand r = some c → modeToEither c = false := by
    intro c hc
    unfold requestCommand at hc
    dsimp only at hc
    split at hc <;> cases hc <;> rfl
  unfold requestInstr
  split
  · rfl
  · next c hc =>
    split
    · rfl
    · exact hknown c hc

theorem modeToEither_dueTimer {c : Instr} (h : s.dueTimer = some c) : modeToEither c = false := by
  have hpick : ∀ (l : List (Option Instr)), (∀ x ∈ l, ∀ y, x = some y → modeToEither y = false) →
      ∀ y, firstOf l = some y → modeToEither y = false := by
    intro l
    induction l with
    | nil => intro _ y hy; cases hy
    | cons x l ih =>
      intro hl y hy
      cases x with
      | none => exact ih (fun z hz => hl z (List.mem_cons_of_mem _ hz)) y hy
      | some x => cases hy; exact hl _ List.mem_cons_self _ rfl
  refine hpick _ ?_ c h
  intro x hx y hy
  subst hy
  simp only [List.mem_cons, List.not_mem_nil, or_false] at hx
  rcases hx with hx | hx | hx | hx | hx | hx | hx
  · obtain ⟨z, -, rfl⟩ := Option.map_eq_some_iff.mp hx.symm
    rfl
  · split at hx <;> cases hx
    rfl
  · split at hx <;> cases hx
    rfl
  · unfold State.dueRelease at hx
    split at hx <;> cases hx
    rfl
  · obtain ⟨z, -, rfl⟩ := Option.map_eq_some_iff.mp hx.symm
    split <;> rfl
  · obtain ⟨z, -, rfl⟩ := Option.map_eq_some_iff.mp hx.symm
    rfl
  · obtain ⟨z, -, rfl⟩ := Option.map_eq_some_iff.mp hx.symm
    rfl

theorem modeToEither_duePort {p : Port} {c : Instr} (h : s.duePort p = some c) : modeToEither c = false := by
  unfold State.duePort at h
  repeat' split at h
  all_goals cases h
  all_goals rfl

/-- A report of a mode that is the part's own next event is one that a block made. -/
theorem mem_reports_of_nextEvent {c : Instr} (h : s.nextEvent = some c) (hc : modeToEither c = true) : c ∈ s.reports := by
  have hnot : ∀ x : Instr, modeToEither x = false → x ≠ c := fun x hx he => by
    rw [he, hc] at hx
    cases hx
  unfold State.nextEvent at h
  split at h
  · cases hr : s.reports.head? with
    | some x =>
      rw [hr] at h
      cases h
      exact List.mem_of_mem_head? hr
    | none =>
      rw [hr] at h
      refine absurd hc (Bool.eq_false_iff.mp ?_)
      by_cases hs : s.gate.scanDue = true
      · simp only [firstOf, hs, if_true] at h
        cases h
        rfl
      · simp only [firstOf, hs] at h
        cases hq : s.dueRequest with
        | some x =>
          simp only [hq] at h
          cases h
          unfold State.dueRequest at hq
          split at hq
          · obtain ⟨r, -, rfl⟩ := Option.map_eq_some_iff.mp hq
            exact modeToEither_requestInstr r
          · cases hq
        | none =>
          cases hn : s.notices.head? with
          | some n =>
            simp only [hq, hn, Option.map_some] at h
            cases h
            rfl
          | none =>
            cases ht : s.dueTimer with
            | some x =>
              simp only [hq, hn, ht, Option.map_none] at h
              cases h
              exact modeToEither_dueTimer ht
            | none =>
              cases hS : s.duePort .sPort with
              | some x =>
                simp only [hq, hn, ht, hS, Option.map_none] at h
                cases h
                exact modeToEither_duePort hS
              | none =>
                cases hF : s.duePort .fPort with
                | some x =>
                  simp only [hq, hn, ht, hS, hF, Option.map_none] at h
                  cases h
                  exact modeToEither_duePort hF
                | none => simp [firstOf, hq, hn, ht, hS, hF] at h
  · cases h

theorem Change.mono {made' plans' : Prop} (hm : made' → made) (hp : plans → plans') (h : Change made plans s t) :
    Change made' plans' s t := by
  induction h with
  | refl s => exact .refl s
  | trans _ _ ih1 ih2 => exact .trans ih1 ih2
  | free c d i ns s => exact .free c d i ns s
  | line l s h => exact .line l s h
  | gate g s h => exact .gate g s h
  | reports rs s h => exact .reports rs s h
  | dynamic i d s => exact .dynamic i d s
  | static i d s => exact .static i d s
  | params p s hs hb => exact .params p s hs hb
  | sample r p c s => exact .sample r p c s
  | freshness s => exact .freshness s
  | dwell s => exact .dwell s
  | spend p s h => exact .spend p s h
  | estimatorTakes m w rs s h hw hr => exact .estimatorTakes m w rs s (fun x => h (hm x)) hw hr
  | plannerTakes m s p h => exact .plannerTakes m s (hp p) fun x => h (hm x)
  | planner q s hm hl hb => exact .planner q s hm hl hb
  | latch l s p => exact .latch l s (hp p)
  | build b s p hm => exact .build b s (hp p) hm
  | inputs x y z s => exact .inputs x y z s
  | cancel s => exact .cancel s
  | pend s hr hv => exact .pend s hr hv
  | shadow f s hc hf => exact .shadow f s hc hf
  | refilled s h => exact .refilled s h
  | swap r s h => exact .swap r s h
  | upkeep u s h => exact .upkeep u s h
  | monitor m s h => exact .monitor m s h
  | trim k v s h => exact .trim k v s h
  | modes m s hm hs => exact .modes m s hm hs
  | mode c m s hv hu => exact .mode c m s hv hu
  | geometry f s h hf => exact .geometry f s h hf
  | sectors n s h hn => exact .sectors n s h hn
  | factory b x s p => exact .factory b x s (hp p)
  | load i x s p hi => exact .load i x s (hp p) hi
  | restart s p => exact .restart s (hp p)

/-- What a step is made of, once its command has left the queue. -/
theorem step_change (h : step s = .next t) :
    ∃ cs, Change (modeReportsMade s) True { s with pending := cs } t := by
  have hexec : ∀ (c : Instr) (u : State), exec c u = .next t →
      (modeReportsMade s → modeToEither c = true → c ∈ u.reports) → Change (modeReportsMade s) True u t := by
    intro c u hu hm
    obtain ⟨v, hv, hc⟩ := exec_change c u
    rw [hv] at hu
    cases hu
    exact hc.mono hm fun _ => trivial
  unfold step at h
  split at h
  · next c rest hp =>
    exact ⟨rest, hexec c _ h fun hm hc => hm c (by rw [hp]; rfl) hc⟩
  · next hp =>
    refine ⟨s.pending, ?_⟩
    split at h
    · next c hc => exact hexec c s h fun _ => mem_reports_of_nextEvent hc
    · cases h
      split
      · exact (Change.refl s).elapse 1
      · exact .refl s

/-- Settles O1: the three branches of a step. -/
theorem stepTakesFrontCommand : Obligations.StepTakesFrontCommand := by
  refine ⟨fun c rest s hp => ?_, fun c s hp hn => ?_, fun s hp hn hpow => ?_⟩
  · simp only [step, hp]
  · simp only [step, hp, hn]
  · simp only [step, hp, hn, hpow, if_true]

/-- Settles O2: no elementary change touches the queue. -/
theorem everyCommandAnswersNext : Obligations.EveryCommandAnswersNext := by
  intro c s
  obtain ⟨t, ht, hc⟩ := exec_change c s
  exact ⟨t, ht, hc.pending_eq⟩

/-! ### The estimates (R49) -/

/-- A filter step moves a value at most to the value it moves toward (R48). -/
theorem filterStep_between {d : Int} {gain : Nat} (hg : gain ≤ 255) :
    (0 ≤ d → 0 ≤ filterStep d gain ∧ filterStep d gain ≤ d) ∧ (d ≤ 0 → d ≤ filterStep d gain ∧ filterStep d gain ≤ 0) := by
  have hup : ∀ x : Int, 0 ≤ x → 0 ≤ filterStep x gain ∧ filterStep x gain ≤ x := by
    intro x hx
    have hprod : x * gain ≤ x * 255 := Int.mul_le_mul_of_nonneg_left (by omega) hx
    obtain ⟨hlow, hhigh⟩ := halfAway256_nonneg (Int.mul_nonneg hx (Int.natCast_nonneg gain))
    exact ⟨hlow, by unfold filterStep; omega⟩
  refine ⟨hup d, fun hd => ?_⟩
  have hneg : filterStep d gain = -filterStep (-d) gain := by
    unfold filterStep
    rw [← halfAway256_neg, Int.neg_mul, Int.neg_neg]
  obtain ⟨hlow, hhigh⟩ := hup (-d) (by omega)
  omega

theorem correctedSpeed_le (raw gain : Nat) : correctedSpeed raw gain ≤ 400 := Nat.min_le_right _ _

/-- The estimates of one Estimator in their ranges. -/
def windInRange (w : Wind) : Prop := w.direction < 3600 ∧ w.speed ≤ 400 ∧ w.params.beta ≤ 255

theorem Wind.moveSpeed_inRange {w : Wind} (h : windInRange w) {c : Nat} (hc : c ≤ 400) : windInRange (w.moveSpeed c) := by
  obtain ⟨hdir, hspeed, hbeta⟩ := h
  refine ⟨hdir, ?_, hbeta⟩
  obtain ⟨hup, hdown⟩ := filterStep_between (d := (c : Int) - w.speed) hbeta
  simp only [Wind.moveSpeed]
  omega

theorem Wind.moveDirection_inRange {w : Wind} (h : windInRange w) {c : Nat} (hc : c < 3600) :
    windInRange (w.moveDirection c) := by
  obtain ⟨hdir, hspeed, hbeta⟩ := h
  unfold Wind.moveDirection
  dsimp only
  repeat' split
  · exact ⟨hc, hspeed, hbeta⟩
  · exact ⟨hdir, hspeed, hbeta⟩
  · exact ⟨into3600_lt _, hspeed, hbeta⟩

theorem Wind.accept_inRange {w : Wind} (h : windInRange w) (n : Nat) {o : Option Nat} (ho : ∀ c, o = some c → c < 3600)
    {v : Nat} (hv : v ≤ 400) : windInRange (w.accept n o v) := by
  unfold Wind.accept
  split
  · cases o with
    | none => exact Wind.moveSpeed_inRange h hv
    | some c => exact Wind.moveSpeed_inRange (Wind.moveDirection_inRange h (ho c rfl)) hv
  · cases o with
    | none => exact h
    | some c => exact ⟨ho c rfl, hv, h.2.2⟩

theorem Wind.evaluateDwell_frame (p : Option Pair) (n : Nat) (w : Wind) : w.evaluateDwell p n = { w with
    dwellTimer := (w.evaluateDwell p n).dwellTimer, dwellPair := (w.evaluateDwell p n).dwellPair } := by
  unfold Wind.evaluateDwell Wind.clearDwell
  repeat' split
  all_goals rfl

theorem Wind.arrival_inRange {w : Wind} (h : windInRange w) (r : ReferenceArrival) (p : Option Pair) (n : Nat) :
    windInRange (w.arrival r p n) := by
  have hfiltered : ∀ raw (o : Option Nat), windInRange (({ w with lastReference := some (r.turbine, r.time) } : Wind).accept n
      (if 10 ≤ correctedSpeed raw r.gain then o.map (correctedDirection · r.offset) else none)
      (correctedSpeed raw r.gain)) := by
    intro raw o
    refine Wind.accept_inRange (w := { w with lastReference := some (r.turbine, r.time) }) h n (fun c hc => ?_)
      (correctedSpeed_le _ _)
    split at hc
    · obtain ⟨x, -, rfl⟩ := Option.map_eq_some_iff.mp hc
      exact into3600_lt _
    · cases hc
  unfold Wind.arrival
  split
  · exact h
  · next raw _ =>
    have hnow := hfiltered raw r.direction
    dsimp only at hnow ⊢
    generalize Wind.accept n _ _ _ = u at hnow ⊢
    split
    · split
      · rw [Wind.evaluateDwell_frame]
        exact hnow
      · exact hnow
    · exact hnow

/-- A report of a mode moves no estimate. -/
theorem State.estimatorMode_wind (m : Mode) (s : State) : (s.estimatorMode m).wind = { s.wind with
    modeIn := m, dwellTimer := (s.estimatorMode m).wind.dwellTimer, dwellPair := (s.estimatorMode m).wind.dwellPair } := by
  unfold State.estimatorMode
  dsimp only
  repeat' split
  all_goals rfl

/-- What the judgement of an image's content has tested (R186). -/
theorem Image.contentOk_parts {i : Image} (h : i.contentOk = true) : i.parametersOk = true ∧ staticsOk i.statics = true ∧
    rowsOk i.statics i.rows = true ∧ i.bank.contentOk = true ∧
    i.trims.cells.all (fun c => decide (c.1 < Config.sectorSlots) && within 32 128 c.2) = true ∧ i.canonical = true := by
  simpa only [Image.contentOk, Bool.and_eq_true, and_assoc] using h

/-- A parameter set of an image that is loaded is in range. -/
theorem Image.contentOk_wind {i : Image} (h : i.contentOk = true) : i.wind.beta ≤ 255 ∧ sectorCountOk i.wind.sectors = true := by
  obtain ⟨hparams, -⟩ := Image.contentOk_parts h
  simp only [Image.parametersOk, windParamsOk, windRangesOk, Bool.and_eq_true, within_iff, and_assoc] at hparams
  obtain ⟨-, -, -, -, hbeta, -, -, -, -, -, -, -, -, -, -, -, hsectors, -⟩ := hparams
  exact ⟨hbeta, hsectors⟩

theorem Change.windInRange (h : Change made plans s t) (hs : windInRange s.wind) : windInRange t.wind := by
  induction h with
  | trans _ _ ih1 ih2 => exact ih2 (ih1 hs)
  | sample r p c s => exact Wind.arrival_inRange hs r p c
  | params p s hsec hb => exact ⟨hs.1, hs.2.1, hb hs.2.2⟩
  | estimatorTakes m w rs s h hw hr =>
    rw [hw, State.estimatorMode_wind]
    exact hs
  | factory b x s hp => exact ⟨Nat.zero_lt_succ _, Nat.zero_le _, Nat.le_of_ble_eq_true rfl⟩
  | load i x s hp hi => exact ⟨Nat.zero_lt_succ _, Nat.zero_le _, (Image.contentOk_wind hi).1⟩
  | restart s hp => exact ⟨Nat.zero_lt_succ _, Nat.zero_le _, hs.2.2⟩
  | _ => exact hs

/-- Settles O23: no elementary change moves an estimate out of its range. -/
theorem everyStepKeepsEstimateInRange : Obligations.EveryStepKeepsEstimateInRange := by
  intro s t hs h
  obtain ⟨cs, hc⟩ := step_change h
  exact hc.windInRange hs

/-! ### The yaw slots (R119, R120) -/

/-- The segments in flight and the budgets of one Gate within their bounds. -/
def gateBounded (g : Gate) : Prop :=
  (g.flights.map (·.turbine)).Nodup ∧ g.flights.length ≤ 32 ∧ (∀ b ∈ g.budgets, b ≤ 32) ∧ g.urgentBudget ≤ 32

theorem Gate.budget_le {g : Gate} (h : gateBounded g) (c : MoveClass) : g.budget c ≤ 32 := by
  obtain ⟨-, -, hbudgets, hurgent⟩ := h
  cases c with
  | urgent => exact hurgent
  | normal =>
    unfold Gate.budget Gate.normalBudget
    cases g.installed with
    | none => exact Nat.zero_le _
    | some p =>
      simp only [Option.map_some, Option.getD_some]
      rw [List.getD_eq_getElem?_getD]
      cases hb : g.budgets[p.pair.band]? with
      | none => exact Nat.zero_le _
      | some b => exact hbudgets b (List.mem_of_getElem? hb)

/-- A turbine that is not busy has no segment in flight. -/
theorem Gate.not_mem_flights {g : Gate} {i : Nat} (h : g.busy i = false) : i ∉ g.flights.map (·.turbine) := by
  simp only [Gate.busy, Gate.flightOf, Option.isSome_eq_false_iff, Option.isNone_iff_eq_none, List.find?_eq_none] at h
  intro hmem
  obtain ⟨f, hf, rfl⟩ := List.mem_map.mp hmem
  exact h f hf (beq_self_eq_true _)

theorem GateChange.bounded {g k : Gate} (h : GateChange g k) (hg : gateBounded g) : gateBounded k := by
  induction h with
  | trans _ _ ih1 ih2 => exact ih2 (ih1 hg)
  | aux hf hb hu hr hn hc =>
    unfold gateBounded
    rw [hf, hb, hu]
    exact hg
  | flights fs g hsub =>
    have hlen := hsub.length_le
    simp only [List.length_map] at hlen
    exact ⟨hg.1.sublist hsub, Nat.le_trans hlen hg.2.1, hg.2.2⟩
  | grant f c g hb hl =>
    refine ⟨?_, ?_, hg.2.2⟩
    · rw [List.map_append, List.nodup_append]
      refine ⟨hg.1, List.pairwise_singleton _ _, ?_⟩
      intro i hi j hj
      obtain rfl := List.mem_singleton.mp hj
      exact fun he => Gate.not_mem_flights hb (Eq.subst (motive := fun x => x ∈ g.flights.map (·.turbine)) he hi)
    · have := Gate.budget_le hg c
      rw [List.length_append, List.length_singleton]
      omega
  | budgets bs u g hb hu => exact ⟨hg.1, hg.2.1, hb, hu⟩
  | _ => exact hg

/-- The budgets of an image that is loaded are in range (R186). -/
theorem Image.contentOk_budgets {i : Image} (h : i.contentOk = true) : (∀ b ∈ i.budgets, b ≤ 32) ∧ i.urgentBudget ≤ 32 := by
  obtain ⟨hparams, -⟩ := Image.contentOk_parts h
  simp only [Image.parametersOk, budgetsOk, Bool.and_eq_true, within_iff, List.all_eq_true, and_assoc] at hparams
  obtain ⟨-, -, -, -, hbands, -, hurgent, -⟩ := hparams
  exact ⟨fun b hb => (hbands b hb).2, hurgent⟩

theorem gateBounded_factory : Machine.gateBounded Gate.factory := by
  unfold Machine.gateBounded
  decide

theorem Change.gateBounded (h : Change made plans s t) (hs : gateBounded s.gate) : gateBounded t.gate := by
  induction h with
  | trans _ _ ih1 ih2 => exact ih2 (ih1 hs)
  | gate g s h => exact h.bounded hs
  | factory b x s hp => exact gateBounded_factory
  | load i x s hp hi => exact ⟨List.nodup_nil, Nat.zero_le _, Image.contentOk_budgets hi⟩
  | restart s hp => exact ⟨List.nodup_nil, Nat.zero_le _, hs.2.2⟩
  | _ => exact hs

/-- Settles O47: a segment is added only for a turbine that is not busy, within a budget. -/
theorem everyStepKeepsSlotsBounded : Obligations.EveryStepKeepsSlotsBounded := by
  intro s t hs h
  obtain ⟨cs, hc⟩ := step_change h
  exact hc.gateBounded hs

end Sys2Proof.Machine
end

/-! PROOFS. The invariants of O59 and the reset state (O60): each is kept by every elementary change. -/

section
namespace Sys2Proof.Machine

variable {made plans : Prop} {s t : State}

/-! ### Queues and ring -/

theorem Change.lineBounded (h : Change made plans s t) (hs : lineBounded s.line) : lineBounded t.line := by
  induction h with
  | trans _ _ ih1 ih2 => exact ih2 (ih1 hs)
  | line l s h => exact h hs
  | factory b x s hp => exact ⟨Nat.zero_le _, Nat.zero_le _, Nat.zero_le _, Nat.zero_le _, Nat.zero_le _⟩
  | load i x s hp hi => exact ⟨Nat.zero_le _, Nat.zero_le _, Nat.zero_le _, Nat.zero_le _, Nat.zero_le _⟩
  | restart s hp => exact ⟨Nat.zero_le _, Nat.zero_le _, Nat.zero_le _, Nat.zero_le _, Nat.zero_le _⟩
  | _ => exact hs

theorem GateChange.ring_length {g k : Gate} (h : GateChange g k) (hg : g.ring.length ≤ 1024) : k.ring.length ≤ 1024 := by
  induction h with
  | trans _ _ ih1 ih2 => exact ih2 (ih1 hg)
  | aux hf hb hu hr hn hc => rw [hr]; exact hg
  | records f hf g => rw [List.length_map]; exact hg
  | create r g => exact (pushRecord_spec _ _ hg).1
  | _ => exact hg

theorem Change.ring_length (h : Change made plans s t) (hs : s.gate.ring.length ≤ 1024) : t.gate.ring.length ≤ 1024 := by
  induction h with
  | trans _ _ ih1 ih2 => exact ih2 (ih1 hs)
  | gate g s h => exact h.ring_length hs
  | factory b x s hp => exact Nat.zero_le _
  | load i x s hp hi => exact Nat.zero_le _
  | restart s hp => exact Nat.le_trans (Nat.le_of_eq (List.length_map _)) hs
  | _ => exact hs

/-- The Move Ring of one Gate in the order of R113 and R114. -/
def ringInOrder (g : Gate) : Prop :=
  g.ring.length ≤ 1024 ∧ g.recordCounter ≤ 4294967295 ∧
    (∀ r ∈ g.ring, 1 ≤ r.sequence ∧ r.sequence ≤ 4294967295) ∧
    (∀ r, g.ring.getLast? = some r → r.sequence = g.recordCounter) ∧
    ∀ i a b, g.ring[i]? = some a → g.ring[i + 1]? = some b →
      b.sequence = if a.sequence = 4294967295 then 1 else a.sequence + 1

/-- Records that keep their numbers keep the order. -/
theorem ringInOrder_map {g : Gate} (f : MoveRecord → MoveRecord) (hf : ∀ r, (f r).sequence = r.sequence)
    (hg : ringInOrder g) : ringInOrder { g with ring := g.ring.map f } := by
  obtain ⟨hlen, hcount, hrange, hlast, hnext⟩ := hg
  refine ⟨Nat.le_trans (Nat.le_of_eq (List.length_map _)) hlen, hcount, ?_, ?_, ?_⟩
  · intro r hr
    obtain ⟨x, hx, rfl⟩ := List.mem_map.mp hr
    rw [hf]
    exact hrange x hx
  · intro r hr
    rw [List.getLast?_map] at hr
    obtain ⟨x, hx, rfl⟩ := Option.map_eq_some_iff.mp hr
    rw [hf]
    exact hlast x hx
  · intro i a b ha hb
    rw [List.getElem?_map] at ha hb
    obtain ⟨x, hx, rfl⟩ := Option.map_eq_some_iff.mp ha
    obtain ⟨y, hy, rfl⟩ := Option.map_eq_some_iff.mp hb
    rw [hf, hf]
    exact hnext i x y hx hy

/-- The part of the ring that a new record leaves in it. -/
theorem pushRecord_eq (r : MoveRecord) (ring : List MoveRecord) :
    ∃ k, pushRecord r ring = ring.drop k ++ [r] := by
  unfold pushRecord
  split
  · exact ⟨0, rfl⟩
  · exact ⟨1, rfl⟩

theorem ringInOrder_create {g : Gate} (r : MoveRecord) (hg : ringInOrder g) : ringInOrder (g.create r) := by
  obtain ⟨hlen, hcount, hrange, hlast, hnext⟩ := hg
  obtain ⟨hpush, hback⟩ := pushRecord_spec { r with sequence := nextSequence g.recordCounter } g.ring hlen
  obtain ⟨hlow, hhigh⟩ := nextSequence_range hcount
  obtain ⟨k, hk⟩ := pushRecord_eq { r with sequence := nextSequence g.recordCounter } g.ring
  refine ⟨hpush, hhigh, ?_, ?_, ?_⟩
  · intro x hx
    rw [Gate.create, hk] at hx
    rcases List.mem_append.mp hx with hx | hx
    · exact hrange x (List.mem_of_mem_drop hx)
    · rw [List.mem_singleton.mp hx]
      exact ⟨hlow, hhigh⟩
  · intro x hx
    rw [Gate.create, hback] at hx
    cases hx
    rfl
  · intro i a b ha hb
    simp only [Gate.create, hk] at ha hb
    rcases Nat.lt_trichotomy (i + 1) (g.ring.drop k).length with hi | hi | hi
    · rw [List.getElem?_append_left (by omega), List.getElem?_drop] at ha hb
      exact hnext (k + i) a b ha hb
    · rw [List.getElem?_append_left (by omega), List.getElem?_drop] at ha
      rw [List.getElem?_append_right (by omega), hi, Nat.sub_self] at hb
      cases hb
      have hfront : a.sequence = g.recordCounter := by
        refine hlast a ?_
        rw [List.getLast?_eq_getElem?]
        rw [List.length_drop] at hi
        rw [show g.ring.length - 1 = k + i by omega]
        exact ha
      rw [hfront]
      rfl
    · rw [List.getElem?_eq_none (by rw [List.length_append, List.length_singleton]; omega)] at hb
      cases hb

theorem GateChange.ringInOrder {g k : Gate} (h : GateChange g k) (hg : ringInOrder g) : ringInOrder k := by
  induction h with
  | trans _ _ ih1 ih2 => exact ih2 (ih1 hg)
  | aux hf hb hu hr hn hc =>
    unfold Machine.ringInOrder
    rw [hr, hn]
    exact hg
  | records f hf g => exact ringInOrder_map f hf hg
  | create r g => exact ringInOrder_create r hg
  | _ => exact hg

/-- An empty ring is in order. -/
theorem ringInOrder_empty {g : Gate} (hr : g.ring = []) (hn : g.recordCounter = 0) : ringInOrder g := by
  unfold ringInOrder
  rw [hr, hn]
  simp

theorem Change.ringInOrder (h : Change made plans s t) (hs : ringInOrder s.gate) : ringInOrder t.gate := by
  induction h with
  | trans _ _ ih1 ih2 => exact ih2 (ih1 hs)
  | gate g s h => exact h.ringInOrder hs
  | factory b x s hp => exact ringInOrder_empty rfl rfl
  | load i x s hp hi => exact ringInOrder_empty rfl rfl
  | restart s hp => exact ringInOrder_map _ (fun r => by split <;> rfl) hs
  | _ => exact hs

/-! ### STEERING and the trims -/

theorem Change.steeringAgrees (h : Change made plans s t) (hs : steeringAgrees s) : steeringAgrees t := by
  induction h with
  | trans _ _ ih1 ih2 => exact ih2 (ih1 hs)
  | modes m s hm hst =>
    unfold Machine.steeringAgrees
    rw [hm, hst]
    exact hs
  | mode c m s hv hu => exact Eq.refl (steeringOutput m)
  | factory b x s hp => exact Eq.refl false
  | load i x s hp hi => exact Eq.refl false
  | restart s hp => exact Eq.refl false
  | _ => exact hs

theorem Change.trimsInRange (h : Change made plans s t) (hs : trimsInRange s) : trimsInRange t := by
  induction h with
  | trans _ _ ih1 ih2 => exact ih2 (ih1 hs)
  | monitor m s h =>
    intro k
    simp only [Monitor.trim, h]
    exact hs k
  | trim k v s h =>
    intro j
    simp only [State.onMonitor, Monitor.trim]
    by_cases hj : j = k
    · rw [hj, Table.get_set_same]
      exact h (hs k)
    · rw [Table.get_set_other _ _ hj]
      exact hs j
  | factory b x s hp => intro k; exact ⟨Nat.le_of_ble_eq_true rfl, Nat.le_of_ble_eq_true rfl⟩
  | load i x s hp hi =>
    intro k
    obtain ⟨-, -, -, -, htrims, -⟩ := Image.contentOk_parts hi
    simp only [List.all_eq_true, Bool.and_eq_true, within_iff] at htrims
    exact Table.get_of_all (p := fun v => 32 ≤ v ∧ v ≤ 128) 64 i.trims ⟨by omega, by omega⟩ (fun c hc => (htrims c hc).2) k
  | _ => exact hs

/-! ### The sparse tables -/

theorem GateChange.components_wf {g k : Gate} (h : GateChange g k) (hg : g.components.wf 0 = true) :
    k.components.wf 0 = true := by
  induction h with
  | trans _ _ ih1 ih2 => exact ih2 (ih1 hg)
  | aux hf hb hu hr hn hc => rw [hc]; exact hg
  | component i v g => exact Table.wf_set _ _ _ _ hg
  | home g => rfl
  | _ => exact hg

/-- Both banks in their canonical form. -/
def banksCanonical (k : TableStore) : Prop := ∀ l, bankCanonical (k.bank l)

theorem TableStore.bank_setBank (k : TableStore) (l m : Letter) (b : Bank) :
    (k.setBank l b).bank m = if m = l then b else k.bank m := by
  cases l <;> cases m <;> rfl

theorem TableStore.setBank_frame (k : TableStore) (l : Letter) (b : Bank) :
    (k.setBank l b).active = k.active ∧ (k.setBank l b).valid = k.valid ∧
      (k.setBank l b).commitPending = k.commitPending ∧ (k.setBank l b).refill = k.refill := by
  cases l <;> exact ⟨rfl, rfl, rfl, rfl⟩

theorem TableStore.shadow_ne_active (k : TableStore) : k.active ≠ k.shadow := by
  unfold TableStore.shadow
  cases k.active <;> decide

/-- A write to the shadow leaves the active bank. -/
theorem TableStore.activeBank_setBank_shadow (k : TableStore) (b : Bank) :
    (k.setBank k.shadow b).activeBank = k.activeBank := by
  unfold TableStore.activeBank
  rw [(k.setBank_frame _ _).1, TableStore.bank_setBank, if_neg k.shadow_ne_active]

theorem banksCanonical.setBank {k : TableStore} (h : banksCanonical k) (l : Letter) {b : Bank} (hb : bankCanonical b) :
    banksCanonical (k.setBank l b) := by
  intro m
  rw [TableStore.bank_setBank]
  split
  · exact hb
  · exact h m

theorem banksCanonical_zeroed : banksCanonical TableStore.factory := fun l => by cases l <;> exact ⟨rfl, rfl⟩

/-- The tables of the whole part, block by block. -/
theorem tablesCanonical_iff : tablesCanonical s ↔ fleetCanonical s.fleet ∧ banksCanonical s.tables ∧
    s.gate.components.wf 0 = true ∧ upkeepCanonical s.upkeep ∧ s.monitor.trims.wf 64 = true := by
  unfold tablesCanonical fleetCanonical banksCanonical upkeepCanonical bankCanonical
  constructor
  · intro ⟨h1, h2, h3, h4, h5, h6, h7, h8, h9, h10, h11⟩
    exact ⟨⟨h1, h2, h3⟩, fun l => match l with | .a => ⟨h4, h5⟩ | .b => ⟨h6, h7⟩, h8, ⟨h9, h10⟩, h11⟩
  · intro ⟨⟨h1, h2, h3⟩, hb, h8, ⟨h9, h10⟩, h11⟩
    exact ⟨h1, h2, h3, (hb .a).1, (hb .a).2, (hb .b).1, (hb .b).2, h8, h9, h10, h11⟩

/-- The tables of an image that is loaded are canonical (R186). -/
theorem Image.contentOk_canonical {i : Image} (h : i.contentOk = true) : i.statics.wf .unpopulated = true ∧
    i.rows.wf .empty = true ∧ bankCanonical i.bank ∧ i.trims.wf 64 = true := by
  obtain ⟨-, -, -, -, -, hcanonical⟩ := Image.contentOk_parts h
  simp only [Image.canonical, Bool.and_eq_true] at hcanonical
  obtain ⟨⟨⟨⟨hstatics, hrows⟩, hoffsets⟩, hsectors⟩, htrims⟩ := hcanonical
  exact ⟨hstatics, hrows, ⟨hoffsets, hsectors⟩, htrims⟩

theorem Change.tablesCanonical (h : Change made plans s t) (hs : tablesCanonical s) : tablesCanonical t := by
  rw [tablesCanonical_iff] at hs ⊢
  induction h with
  | trans _ _ ih1 ih2 => exact ih2 (ih1 hs)
  | gate g s h => exact ⟨hs.1, hs.2.1, h.components_wf hs.2.2.1, hs.2.2.2⟩
  | dynamic i d s => exact ⟨⟨hs.1.1, Table.wf_set _ _ _ _ hs.1.2.1, hs.1.2.2⟩, hs.2⟩
  | static i d s => exact ⟨⟨Table.wf_set _ _ _ _ hs.1.1, hs.1.2⟩, hs.2⟩
  | shadow f s hc hf => exact ⟨hs.1, hs.2.1.setBank _ (hf _ (hs.2.1 _)), hs.2.2⟩
  | refilled s h => exact ⟨hs.1, hs.2.1.setBank _ (hs.2.1 _), hs.2.2⟩
  | upkeep u s h => exact ⟨hs.1, hs.2.1, hs.2.2.1, h hs.2.2.2.1, hs.2.2.2.2⟩
  | monitor m s h => exact ⟨hs.1, hs.2.1, hs.2.2.1, hs.2.2.2.1, by rw [h]; exact hs.2.2.2.2⟩
  | trim k v s h => exact ⟨hs.1, hs.2.1, hs.2.2.1, hs.2.2.2.1, Table.wf_set _ _ _ _ hs.2.2.2.2⟩
  | geometry f s h hf => exact ⟨hf hs.1, hs.2⟩
  | factory b x s hp => exact ⟨⟨rfl, rfl, rfl⟩, banksCanonical_zeroed, rfl, ⟨rfl, rfl⟩, rfl⟩
  | load i x s hp hi =>
    obtain ⟨hstatics, hrows, hbank, htrims⟩ := Image.contentOk_canonical hi
    exact ⟨⟨hstatics, rfl, hrows⟩, fun l => match l with | .a => hbank | .b => ⟨rfl, rfl⟩, rfl, ⟨rfl, rfl⟩, htrims⟩
  | restart s hp => exact ⟨⟨hs.1.1, rfl, hs.1.2.2⟩, hs.2.1, rfl, ⟨rfl, rfl⟩, hs.2.2.2.2⟩
  | _ => exact hs

/-! ### The banks and the farm (R74, R75, R79) -/

theorem distinct_iff {l : List Nat} : distinct l = true ↔ l.Nodup := by
  induction l with
  | nil => simp [distinct]
  | cons x l ih => simp [distinct, ih]

/-- The validation of a sector record is R75's. -/
theorem sectorPasses_iff {x : SectorRecord} : sectorPasses s.fleet.populatedRows x = true ↔ sectorValid s x := by
  have hrow : ∀ r, r ∈ s.fleet.populatedRows ↔ r < 16 ∧ (s.fleet.row r).members ≠ [] := fun r => by
    simp [Fleet.populatedRows, Fleet.rowPopulated, Config.rows]
  simp only [sectorPasses, sectorValid, Bool.and_eq_true, Bool.not_eq_true', List.isEmpty_eq_false_iff, List.all_eq_true,
    List.contains_iff_mem, distinct_iff, beq_iff_eq, within_iff]
  constructor
  · rintro ⟨⟨⟨⟨⟨hne, honly⟩, hdistinct⟩, hall⟩, hlen⟩, hspaces⟩
    exact ⟨hne, hdistinct, fun r => ⟨fun h => (hrow r).mp (honly r h), fun h => hall r ((hrow r).mpr h)⟩, hlen, hspaces⟩
  · rintro ⟨hne, hdistinct, hmem, hlen, hspaces⟩
    exact ⟨⟨⟨⟨⟨hne, fun r h => (hrow r).mpr ((hmem r).mp h)⟩, hdistinct⟩, fun r h => (hmem r).mpr ((hrow r).mp h)⟩,
      hlen⟩, hspaces⟩

/-- A bank in which no sector fails. -/
theorem validate_none_iff {k : Bank} :
    s.validate k = none ↔ ∀ n < s.wind.params.sectors, sectorValid s (k.sector n) := by
  simp only [State.validate, Bank.firstFailing, List.find?_eq_none, List.mem_range, Bool.not_eq_true', Bool.not_eq_false,
    sectorPasses_iff]

theorem Wind.accept_frame (n : Nat) (o : Option Nat) (v : Nat) (w : Wind) :
    (w.accept n o v).params = w.params ∧ (w.accept n o v).modeIn = w.modeIn ∧
      (w.accept n o v).candidateSector = w.candidateSector ∧ (w.accept n o v).candidateBand = w.candidateBand ∧
      (w.accept n o v).dwellPair = w.dwellPair ∧ ((w.accept n o v).valid = false → w.valid = false) := by
  have hdir : ∀ c : Nat, (w.moveDirection c) = { w with
      direction := (w.moveDirection c).direction, outlierRun := (w.moveDirection c).outlierRun } := fun c => by
    unfold Wind.moveDirection
    dsimp only
    repeat' split
    all_goals rfl
  unfold Wind.accept
  split
  · next hv =>
    cases o with
    | none => exact ⟨rfl, rfl, rfl, rfl, rfl, id⟩
    | some c =>
      dsimp only [Wind.moveSpeed]
      rw [hdir]
      exact ⟨rfl, rfl, rfl, rfl, rfl, id⟩
  · cases o with
    | none => exact ⟨rfl, rfl, rfl, rfl, rfl, id⟩
    | some c => exact ⟨rfl, rfl, rfl, rfl, rfl, fun h => by cases h⟩

/-- What a reference sample makes of the Estimator's state: nothing, or an accepted sample, quantized where that leaves the estimate
VALID, and the dwell evaluated in LIVE and DRY (R41, R56). -/
theorem Wind.arrival_cases (r : ReferenceArrival) (p : Option Pair) (n : Nat) (w : Wind) :
    w.arrival r p n = w ∨ ∃ x o v, w.arrival r p n =
      (let u := ({ w with lastReference := x } : Wind).accept n o v
       if u.valid then (if steering w.modeIn then u.quantize.evaluateDwell p n else u.quantize) else u) := by
  unfold Wind.arrival
  split
  · exact .inl rfl
  · next raw _ =>
    dsimp only
    generalize (if 10 ≤ correctedSpeed raw r.gain then r.direction.map (correctedDirection · r.offset) else none) = o
    refine .inr ⟨some (r.turbine, r.time), o, correctedSpeed raw r.gain, ?_⟩
    have hmode := (Wind.accept_frame n o (correctedSpeed raw r.gain) { w with lastReference := some (r.turbine, r.time) }).2.1
    generalize Wind.accept n o _ _ = u at hmode ⊢
    rw [show u.quantize.modeIn = w.modeIn from hmode]

theorem Wind.arrival_frame (r : ReferenceArrival) (p : Option Pair) (n : Nat) (w : Wind) :
    (w.arrival r p n).params = w.params ∧ (w.arrival r p n).modeIn = w.modeIn := by
  obtain h | ⟨x, o, v, h⟩ := Wind.arrival_cases r p n w
  · rw [h]
    exact ⟨rfl, rfl⟩
  · rw [h]
    obtain ⟨hparams, hmode, -⟩ := Wind.accept_frame n o v { w with lastReference := x }
    dsimp only
    split
    · split
      · rw [Wind.evaluateDwell_frame]
        exact ⟨hparams, hmode⟩
      · exact ⟨hparams, hmode⟩
    · exact ⟨hparams, hmode⟩

/-- The agreement rests on the Table Store, the rows and the sector count alone. -/
theorem banksAgree_congr (ht : t.tables = s.tables) (hr : t.fleet.rows = s.fleet.rows)
    (hn : t.wind.params.sectors = s.wind.params.sectors) (h : banksAgree s) : banksAgree t := by
  unfold banksAgree sectorValid Fleet.row at *
  rw [ht, hr, hn]
  exact h

theorem Change.banksAgree (h : Change made plans s t) (hs : banksAgree s) : banksAgree t := by
  induction h with
  | trans _ _ ih1 ih2 => exact ih2 (ih1 hs)
  | params p s hp hb => exact banksAgree_congr (s := s) rfl rfl hp hs
  | sample r p c s => exact banksAgree_congr (s := s) rfl rfl (congrArg WindParams.sectors (Wind.arrival_frame r p c s.wind).1) hs
  | estimatorTakes m w rs s h hw hr =>
    have hsame := congrArg (fun w : Wind => w.params.sectors) (hw.trans (State.estimatorMode_wind m _))
    exact banksAgree_congr (s := s) rfl rfl hsame hs
  | cancel s => exact ⟨hs.1, fun h => by cases h⟩
  | pend s hr hv => exact ⟨hs.1, fun _ => ⟨hr, validate_none_iff.mp hv⟩⟩
  | shadow f s hc hf =>
    obtain ⟨-, hvalid, hcommit, -⟩ := s.tables.setBank_frame s.tables.shadow (f (s.tables.bank s.tables.shadow))
    refine ⟨fun hv => ?_, fun hp => ?_⟩
    · have hnow := hs.1 (hvalid.symm.trans hv)
      rw [← s.tables.activeBank_setBank_shadow (f (s.tables.bank s.tables.shadow))] at hnow
      exact hnow
    · exact absurd (hcommit.symm.trans hp) (by rw [hc]; exact Bool.false_ne_true)
  | refilled s h =>
    obtain ⟨-, hvalid, hcommit, -⟩ := s.tables.setBank_frame s.tables.shadow s.tables.activeBank
    refine ⟨fun hv => ?_, fun hp => absurd (hs.2 (hcommit.symm.trans hp)).1 h⟩
    have hnow := hs.1 (hvalid.symm.trans hv)
    rw [← s.tables.activeBank_setBank_shadow s.tables.activeBank] at hnow
    exact hnow
  | swap r s h =>
    refine ⟨fun _ => ?_, fun h => by cases h⟩
    rcases h with hp | hv
    · exact (hs.2 hp).2
    · exact validate_none_iff.mp hv
  | geometry f s h hf => exact ⟨fun hv => (by cases hv), fun hp => absurd (h.2.1.symm.trans hp) Bool.false_ne_true⟩
  | sectors n s h hn => exact ⟨fun hv => (by cases hv), fun hp => absurd (h.2.1.symm.trans hp) Bool.false_ne_true⟩
  | factory b x s hp => exact ⟨fun h => (by cases h), fun h => (by cases h)⟩
  | load i x s hp hi =>
    refine ⟨fun hv => ?_, fun h => by cases h⟩
    exact validate_none_iff.mp (Option.isNone_iff_eq_none.mp hv)
  | restart s hp => exact ⟨hs.1, fun h => by cases h⟩
  | _ => exact hs

end Sys2Proof.Machine
end

/-! PROOFS. The invariants of O59 that speak of the reports of changes of mode, and the settling of O59 and O60. -/

section
namespace Sys2Proof.Machine

variable {made plans : Prop} {s t : State}

/-! ### Reports of a kind -/

/-- Where the reports of changes of mode are the same, what is read of one kind of them is the same. -/
theorem filterMap_of_filter_eq {α : Type} {f : Instr → Option α} (hf : ∀ c, (f c).isSome = true → modeToEither c = true)
    {l k : List Instr} (h : l.filter modeToEither = k.filter modeToEither) : l.filterMap f = k.filterMap f := by
  rw [← filterMap_filter_of_kind hf l, h, filterMap_filter_of_kind hf]

theorem isSome_plannerReportOf {c : Instr} (h : (plannerReportOf c).isSome = true) : modeToEither c = true :=
  modeToEither_iff.mpr (.inr h)

theorem isSome_estimatorReportOf {c : Instr} (h : (estimatorReportOf c).isSome = true) : modeToEither c = true :=
  modeToEither_iff.mpr (.inl h)

/-- A report that is taken leaves the others of its kind. -/
theorem filterMap_erase {α : Type} [DecidableEq α] {f : Instr → Option α} {c : Instr} {x : α} (hc : f c = some x)
    (hinj : ∀ d, f d = some x → d = c) (l : List Instr) : (l.erase c).filterMap f = (l.filterMap f).erase x := by
  induction l with
  | nil => rfl
  | cons d l ih =>
    by_cases hd : d = c
    · subst hd
      simp [hc]
    · rw [List.erase_cons_tail (by simpa using hd)]
      cases hfd : f d with
      | none => rw [List.filterMap_cons_none hfd, List.filterMap_cons_none hfd, ih]
      | some y =>
        have hy : y ≠ x := fun he => hd (hinj d (he ▸ hfd))
        rw [List.filterMap_cons_some hfd, List.filterMap_cons_some hfd, ih, List.erase_cons_tail (by simpa using hy)]

/-- A report of another kind that is taken leaves those of a kind. -/
theorem filterMap_erase_other {α : Type} {f : Instr → Option α} {c : Instr} (hc : f c = none) (l : List Instr) :
    (l.erase c).filterMap f = l.filterMap f := by
  induction l with
  | nil => rfl
  | cons d l ih =>
    by_cases hd : d = c
    · subst hd
      simp [hc]
    · rw [List.erase_cons_tail (by simpa using hd), List.filterMap_cons, List.filterMap_cons, ih]

theorem mem_filterMap_plannerReportOf {m : Mode} {l : List Instr} :
    m ∈ l.filterMap plannerReportOf ↔ .plannerModeChange m ∈ l := by
  rw [List.mem_filterMap]
  constructor
  · rintro ⟨c, hc, hm⟩
    rwa [eq_of_plannerReportOf hm] at hc
  · exact fun h => ⟨_, h, rfl⟩

theorem mem_filterMap_estimatorReportOf {m : Mode} {l : List Instr} :
    m ∈ l.filterMap estimatorReportOf ↔ .estimatorModeChange m ∈ l := by
  rw [List.mem_filterMap]
  constructor
  · rintro ⟨c, hc, hm⟩
    rwa [eq_of_estimatorReportOf hm] at hc
  · exact fun h => ⟨_, h, rfl⟩

theorem filterMap_plannerReportOf_modeReports (m : Mode) : (modeReports m).filterMap plannerReportOf = [m] := by
  cases m <;> rfl

theorem filterMap_estimatorReportOf_modeReports (m : Mode) : (modeReports m).filterMap estimatorReportOf = [m] := by
  cases m <;> rfl

/-- No report of a change of mode outlives RESTART. -/
theorem filter_reportsAfterRestart (s : State) : s.reportsAfterRestart.filter modeToEither = [] := by
  have houtlives : ∀ c, outlivesRestart c = true → modeToEither c = false := fun c hc => by
    unfold outlivesRestart at hc
    split at hc
    · rfl
    · cases hc
  simp only [State.reportsAfterRestart, List.filter_append, List.append_eq_nil_iff, List.filter_eq_nil_iff]
  refine ⟨⟨fun c hc => ?_, fun c hc => ?_⟩, fun c hc => ?_⟩
  · simp [houtlives c (List.mem_filter.mp hc).2]
  · split at hc
    · rw [List.mem_singleton.mp hc]; decide
    · cases hc
  · split at hc
    · rw [List.mem_singleton.mp hc]; decide
    · cases hc

/-- No change of mode is under way. -/
theorem filterMap_of_filter_nil {α : Type} {f : Instr → Option α} (hf : ∀ c, (f c).isSome = true → modeToEither c = true)
    {l : List Instr} (h : l.filter modeToEither = []) : l.filterMap f = [] :=
  filterMap_of_filter_eq hf (k := []) h

/-- The first of the modes under way is taken: the last of what follows stays. -/
theorem getLast?_of_head? {m x : Mode} {l : List Mode} (h : l.head? = some m) :
    (m :: l.erase m).getLast? = (x :: l).getLast? := by
  cases l with
  | nil => cases h
  | cons y l =>
    cases h
    simp [List.getLast?_cons]

theorem getLast?_append_singleton (x m : Mode) (l : List Mode) : (x :: (l ++ [m])).getLast? = some m := by
  rw [← List.cons_append, List.getLast?_append]
  rfl

theorem inSteering_iff {m : Mode} : inSteering m ↔ steering m = true := by
  cases m <;> simp [inSteering, steering]

/-! ### The Planner follows the mode (R160) -/

/-- What `plannerFollows` rests on. -/
theorem plannerFollows_congr (hp : t.planner.modeIn = s.planner.modeIn)
    (hr : t.reports.filterMap plannerReportOf = s.reports.filterMap plannerReportOf) (hm : t.modes.mode = s.modes.mode)
    (h : plannerFollows s) : plannerFollows t := by
  unfold plannerFollows at *
  rw [hp, hr, hm]
  exact h

theorem plannerFollows_rest (hp : t.planner.modeIn = .off) (hr : t.reports.filter modeToEither = [])
    (hm : t.modes.mode = .off) : plannerFollows t := by
  unfold plannerFollows
  rw [hp, hm, filterMap_of_filter_nil (fun _ => isSome_plannerReportOf) hr]
  rfl

theorem Change.plannerFollows (h : Change made plans s t) (hmade : made) (hs : plannerFollows s) : plannerFollows t := by
  induction h with
  | trans _ _ ih1 ih2 => exact ih2 (ih1 hs)
  | reports rs s h =>
    exact plannerFollows_congr (s := s) rfl (filterMap_of_filter_eq (fun _ => isSome_plannerReportOf) h) rfl hs
  | estimatorTakes m w rs s h hw hr =>
    refine plannerFollows_congr (s := s) rfl ?_ rfl hs
    exact (filterMap_of_filter_eq (fun _ => isSome_plannerReportOf) hr).trans (filterMap_erase_other rfl _)
  | plannerTakes m s hp h =>
    unfold Machine.plannerFollows at hs ⊢
    simp only [State.onPlanner, State.arrive]
    rw [filterMap_erase (f := plannerReportOf) (x := m) rfl (fun d => eq_of_plannerReportOf), getLast?_of_head? (h hmade)]
    exact hs
  | planner q s hm hl hb => exact plannerFollows_congr (s := s) hm rfl rfl hs
  | modes m s hm hst => exact plannerFollows_congr (s := s) rfl rfl hm hs
  | mode c m s hv hu =>
    unfold Machine.plannerFollows
    simp only [List.filterMap_append, filterMap_plannerReportOf_modeReports]
    exact getLast?_append_singleton _ _ _
  | factory b x s hp => exact plannerFollows_rest rfl rfl rfl
  | load i x s hp hi => exact plannerFollows_rest rfl rfl rfl
  | restart s hp => exact plannerFollows_rest rfl (filter_reportsAfterRestart s) rfl
  | _ => exact hs

/-! ### The Estimator follows it, and a dwell pair needs a mode that steers -/

/-- What `estimatorFollows` rests on. -/
theorem estimatorFollows_congr (hp : t.wind.modeIn = s.wind.modeIn) (hd : t.wind.dwellPair ≠ none → s.wind.dwellPair ≠ none)
    (hr : t.reports.filterMap estimatorReportOf = s.reports.filterMap estimatorReportOf) (hm : t.modes.mode = s.modes.mode)
    (h : estimatorFollows s) : estimatorFollows t := by
  obtain ⟨hlast, hdwell⟩ := h
  unfold estimatorFollows
  rw [hp, hr, hm]
  refine ⟨hlast, fun hne => (hdwell (hd hne)).imp_right ?_⟩
  rintro ⟨m, hin, hmem⟩
  refine ⟨m, hin, ?_⟩
  rw [← mem_filterMap_estimatorReportOf, hr, mem_filterMap_estimatorReportOf]
  exact hmem

theorem estimatorFollows_rest (hp : t.wind.modeIn = .off) (hd : t.wind.dwellPair = none)
    (hr : t.reports.filter modeToEither = []) (hm : t.modes.mode = .off) : estimatorFollows t := by
  refine ⟨?_, fun hne => absurd hd hne⟩
  rw [hp, hm, filterMap_of_filter_nil (fun _ => isSome_estimatorReportOf) hr]
  rfl

/-- While the mode is one that steers, the Estimator's mode input is, or a report of such a mode is under way to it. -/
theorem steering_of_estimatorFollows (h : estimatorFollows s) (hm : steering s.modes.mode = true) :
    inSteering s.wind.modeIn ∨ ∃ m, inSteering m ∧ .estimatorModeChange m ∈ s.reports := by
  obtain ⟨hlast, -⟩ := h
  have hmem := List.mem_of_getLast? hlast
  rw [List.mem_cons, mem_filterMap_estimatorReportOf] at hmem
  rcases hmem with hin | hin
  · exact .inl (inSteering_iff.mpr (hin ▸ hm))
  · exact .inr ⟨_, inSteering_iff.mpr hm, hin⟩

/-- A dwell pair appears at a reference sample only in a mode that steers (R56). -/
theorem Wind.arrival_dwellPair (r : ReferenceArrival) (p : Option Pair) (n : Nat) (w : Wind) :
    (w.arrival r p n).dwellPair = w.dwellPair ∨ steering w.modeIn = true := by
  obtain h | ⟨x, o, v, h⟩ := Wind.arrival_cases r p n w
  · rw [h]
    exact .inl rfl
  · obtain ⟨-, -, -, -, hdwell, -⟩ := Wind.accept_frame n o v { w with lastReference := x }
    rw [h]
    dsimp only
    split
    · split
      · next hm => exact .inr hm
      · exact .inl hdwell
    · exact .inl hdwell

theorem State.estimatorMode_dwellPair (m : Mode) (s : State) (h : steering m = false) :
    (s.estimatorMode m).wind.dwellPair = none := by
  simp only [State.estimatorMode, h, Bool.false_eq_true, if_false]
  rfl

theorem Change.estimatorFollows (h : Change made plans s t) (hmade : made) (hs : estimatorFollows s) : estimatorFollows t := by
  induction h with
  | trans _ _ ih1 ih2 => exact ih2 (ih1 hs)
  | reports rs s h =>
    exact estimatorFollows_congr (s := s) rfl id (filterMap_of_filter_eq (fun _ => isSome_estimatorReportOf) h) rfl hs
  | sample r p c s =>
    have hmode := (Wind.arrival_frame r p c s.wind).2
    rcases Wind.arrival_dwellPair r p c s.wind with hd | hm
    · exact estimatorFollows_congr (s := s) hmode (fun hne => hd ▸ hne) rfl rfl hs
    · refine ⟨?_, fun _ => .inl (inSteering_iff.mpr ?_)⟩
      · rw [State.onWind_wind, hmode]
        exact hs.1
      · rw [State.onWind_wind, hmode]
        exact hm
  | freshness s => exact estimatorFollows_congr (s := s) rfl (fun hne => absurd rfl hne) rfl rfl hs
  | spend p s h =>
    refine ⟨hs.1, fun _ => ?_⟩
    rcases h with hd | ⟨hm, -⟩
    · exact hs.2 fun hn => by simp [hn] at hd
    · exact steering_of_estimatorFollows (s := s) hs hm
  | estimatorTakes m w rs s h hw hr =>
    have hlist : rs.filterMap estimatorReportOf = (s.reports.filterMap estimatorReportOf).erase m :=
      (filterMap_of_filter_eq (fun _ => isSome_estimatorReportOf) hr).trans
        (filterMap_erase (f := estimatorReportOf) rfl (fun d => eq_of_estimatorReportOf) _)
    have hmode : w.modeIn = m := by rw [hw, State.estimatorMode_wind]
    refine ⟨?_, fun hne => .inl (inSteering_iff.mpr ?_)⟩
    · simp only [hmode, hlist]
      rw [getLast?_of_head? (h hmade)]
      exact hs.1
    · simp only [hmode]
      refine Classical.byContradiction fun hm => ?_
      refine hne ?_
      simp only [hw]
      exact State.estimatorMode_dwellPair m _ (eq_false_of_ne_true hm)
  | plannerTakes m s hp h =>
    exact estimatorFollows_congr (s := s) rfl id (filterMap_erase_other rfl _) rfl hs
  | modes m s hm hst => exact estimatorFollows_congr (s := s) rfl id rfl hm hs
  | mode c m s hv hu =>
    refine ⟨?_, fun hne => (hs.2 hne).imp_right ?_⟩
    · simp only [List.filterMap_append, filterMap_estimatorReportOf_modeReports]
      exact getLast?_append_singleton _ _ _
    · rintro ⟨x, hin, hmem⟩
      exact ⟨x, hin, List.mem_append_left _ hmem⟩
  | factory b x s hp => exact estimatorFollows_rest rfl rfl rfl rfl
  | load i x s hp hi => exact estimatorFollows_rest rfl rfl rfl rfl
  | restart s hp => exact estimatorFollows_rest rfl rfl (filter_reportsAfterRestart s) rfl
  | _ => exact hs

/-! ### Builds read a VALID bank (R74) -/

theorem plannerModeChange_mem_of_filter_eq {l k : List Instr} (h : l.filter modeToEither = k.filter modeToEither) (m : Mode) :
    .plannerModeChange m ∈ l ↔ .plannerModeChange m ∈ k := by
  rw [← mem_filterMap_plannerReportOf, filterMap_of_filter_eq (fun _ => isSome_plannerReportOf) h,
    mem_filterMap_plannerReportOf]

theorem buildsReadValidBank_rest (hm : t.modes.mode = .off) (hb : t.planner.build = none) (hi : t.planner.modeIn = .off)
    (hr : t.reports.filter modeToEither = []) : buildsReadValidBank t := by
  refine fun _ => ⟨hm, hb, by rw [hi]; simp [inSteering], fun m _ hmem => ?_⟩
  rw [plannerModeChange_mem_of_filter_eq (k := []) hr] at hmem
  cases hmem

/-- Where the geometry is free to change, the Planner has followed the mode to OFF and no build runs. -/
theorem builds_of_geometryFree (hf : plannerFollows s) (h : geometryFree s) : s.modes.mode = .off ∧ s.planner.build = none ∧
    s.planner.modeIn = .off := by
  obtain ⟨hm, -, hr, hb⟩ := h
  have hmode : s.planner.modeIn = .off := by
    unfold plannerFollows at hf
    rw [filterMap_of_filter_nil (fun _ => isSome_plannerReportOf) hr, hm] at hf
    exact Option.some.inj hf
  refine ⟨hm, hb.resolve_right ?_, hmode⟩
  rw [hmode]
  decide

theorem Change.buildsReadValidBank (h : Change made plans s t) (hmade : made) (hf : Machine.plannerFollows s)
    (hs : buildsReadValidBank s) : buildsReadValidBank t := by
  induction h with
  | trans h1 _ ih1 ih2 => exact ih2 (h1.plannerFollows hmade hf) (ih1 hf hs)
  | reports rs s h =>
    intro hv
    obtain ⟨hm, hb, hi, hr⟩ := hs hv
    exact ⟨hm, hb, hi, fun m hin hmem => hr m hin ((plannerModeChange_mem_of_filter_eq h m).mp hmem)⟩
  | estimatorTakes m w rs s h hw hr =>
    intro hv
    obtain ⟨hm, hb, hi, hn⟩ := hs hv
    exact ⟨hm, hb, hi, fun x hin hmem =>
      hn x hin (List.mem_of_mem_erase ((plannerModeChange_mem_of_filter_eq hr x).mp hmem))⟩
  | plannerTakes m s hp h =>
    intro hv
    obtain ⟨hm, hb, hi, hn⟩ := hs hv
    refine ⟨hm, hb, fun hin => hn m hin ?_, fun x hin hmem => hn x hin (List.mem_of_mem_erase hmem)⟩
    exact mem_filterMap_plannerReportOf.mp (List.mem_of_mem_head? (h hmade))
  | planner q s hm hl hb =>
    intro hv
    obtain ⟨hmode, hbuild, hi, hn⟩ := hs hv
    refine ⟨hmode, ?_, by rw [hm]; exact hi, hn⟩
    rcases hb with hb | hb | hb
    · exact hb
    · exact hb.trans hbuild
    · exact Bool.noConfusion (hb.symm.trans hv)
  | build b s hp hm =>
    intro hv
    exact absurd (inSteering_iff.mpr hm) (hs hv).2.2.1
  | shadow f s hc hf' =>
    intro hv
    exact hs ((TableStore.setBank_frame _ _ _).2.1.symm.trans hv)
  | refilled s h =>
    intro hv
    exact hs ((TableStore.setBank_frame _ _ _).2.1.symm.trans hv)
  | swap r s h => intro hv; cases hv
  | modes m s hm hst =>
    intro hv
    obtain ⟨hmode, hrest⟩ := hs hv
    exact ⟨hm.trans hmode, hrest⟩
  | mode c m s hv hu =>
    intro hinvalid
    obtain ⟨hmode, hb, hi, hn⟩ := hs hinvalid
    have hnot : ¬ steering m = true := fun h => by rw [hv h] at hinvalid; cases hinvalid
    have hoff : m = .off := by
      cases m
      · rfl
      · exact absurd rfl hnot
      · exact absurd rfl hnot
      · exact absurd (hmode.symm.trans (hu rfl)) (by decide)
    refine ⟨hoff, hb, hi, fun x hin hmem => ?_⟩
    rcases List.mem_append.mp hmem with hmem | hmem
    · exact hn x hin hmem
    · rw [← mem_filterMap_plannerReportOf, filterMap_plannerReportOf_modeReports] at hmem
      exact hnot (inSteering_iff.mp (List.mem_singleton.mp hmem ▸ hin))
  | geometry f s h hf' =>
    intro _
    obtain ⟨hm, hb, hi⟩ := builds_of_geometryFree hf h
    exact buildsReadValidBank_rest (t := { s with fleet := f, tables := { s.tables with valid := false } }) hm hb hi h.2.2.1 rfl
  | sectors n s h hn =>
    intro _
    obtain ⟨hm, hb, hi⟩ := builds_of_geometryFree hf h
    exact buildsReadValidBank_rest (t := { s with
      wind := s.wind.setSectors n, tables := { s.tables with valid := false } }) hm hb hi h.2.2.1 rfl
  | factory b x s hp => exact buildsReadValidBank_rest rfl rfl rfl rfl
  | load i x s hp hi => exact buildsReadValidBank_rest rfl rfl rfl rfl
  | restart s hp => exact buildsReadValidBank_rest rfl rfl rfl (filter_reportsAfterRestart s)
  | _ => exact hs

/-! ### Candidates below S (R51, R63, R66) -/

theorem sectorCountOk_iff {n : Nat} : sectorCountOk n = true ↔ n = 12 ∨ n = 24 ∨ n = 36 := by
  simp [sectorCountOk, or_assoc]

theorem rawSector_lt {n : Nat} (h : n = 12 ∨ n = 24 ∨ n = 36) (e : Nat) : rawSector n e < n := by
  unfold rawSector sectorWidth
  rcases h with rfl | rfl | rfl <;> omega

/-- The Estimator's candidates and dwell pair below its sector count. -/
def windBelowS (w : Wind) : Prop :=
  (w.params.sectors = 12 ∨ w.params.sectors = 24 ∨ w.params.sectors = 36) ∧
    (w.valid = false → w.candidateSector = none) ∧ (∀ c, w.candidateSector = some c → c < w.params.sectors) ∧
    ∀ d, w.dwellPair = some d → d.pair.sector < w.params.sectors

theorem Wind.candidate_sector {w : Wind} {p : Pair} (h : w.candidate = some p) : w.candidateSector = some p.sector := by
  unfold Wind.candidate at h
  split at h
  · next hs _ =>
    cases h
    exact hs
  · cases h

theorem nextSector_lt {p : WindParams} (h : p.sectors = 12 ∨ p.sectors = 24 ∨ p.sectors = 36) (e : Nat) {o : Option Nat}
    (ho : ∀ c, o = some c → c < p.sectors) : nextSector p e o < p.sectors := by
  unfold nextSector
  dsimp only
  repeat' split
  · exact rawSector_lt h e
  · exact ho _ rfl
  · exact rawSector_lt h e
  · exact ho _ rfl

theorem windBelowS_spend {w : Wind} (h : windBelowS w) {p : Pair} (hp : p.sector < w.params.sectors) :
    windBelowS (w.spend p) :=
  ⟨h.1, h.2.1, h.2.2.1, fun d hd => by cases hd; exact hp⟩

theorem windBelowS_evaluateDwell {w : Wind} (h : windBelowS w) (p : Option Pair) (n : Nat) :
    windBelowS (w.evaluateDwell p n) := by
  unfold Wind.evaluateDwell
  split
  · exact h
  · next q hq =>
    split
    · exact ⟨h.1, h.2.1, h.2.2.1, fun d hd => (by cases hd)⟩
    · split
      · exact h
      · exact ⟨h.1, h.2.1, h.2.2.1, fun d hd => by cases hd; exact h.2.2.1 _ (Wind.candidate_sector hq)⟩

theorem windBelowS_arrival {w : Wind} (h : windBelowS w) (r : ReferenceArrival) (p : Option Pair) (n : Nat) :
    windBelowS (w.arrival r p n) := by
  obtain he | ⟨x, o, v, he⟩ := Wind.arrival_cases r p n w
  · rw [he]
    exact h
  · rw [he]
    obtain ⟨hparams, -, hsector, -, hdwell, hvalid⟩ := Wind.accept_frame n o v { w with lastReference := x }
    generalize Wind.accept n o v { w with lastReference := x } = u at hparams hsector hdwell hvalid ⊢
    have hu : windBelowS u := by
      unfold windBelowS
      rw [hparams, hsector, hdwell]
      exact ⟨h.1, fun hn => h.2.1 (hvalid hn), h.2.2⟩
    have hq : u.valid = true → windBelowS u.quantize := fun hv =>
      ⟨hu.1, fun hn => absurd (hv.symm.trans hn) (by decide), fun c hc => by
        cases hc
        exact nextSector_lt hu.1 _ hu.2.2.1, hu.2.2.2⟩
    dsimp only
    split
    · next hv =>
      split
      · exact windBelowS_evaluateDwell (hq hv) p n
      · exact hq hv
    · exact hu

theorem windBelowS_estimatorMode (m : Mode) (h : windBelowS s.wind) : windBelowS (s.estimatorMode m).wind := by
  have hmode : windBelowS { s.wind with modeIn := m } := h
  unfold State.estimatorMode
  dsimp only
  split
  · split
    · split
      · next p hp => exact windBelowS_spend hmode (h.2.2.1 _ (Wind.candidate_sector (w := { s.wind with modeIn := m }) hp))
      · exact hmode
    · exact hmode
  · exact ⟨h.1, h.2.1, h.2.2.1, fun d hd => (by cases hd)⟩

/-- Where the geometry is free to change, no dwell runs (log entry 52). -/
theorem dwell_of_geometryFree (hf : estimatorFollows s) (h : geometryFree s) : s.wind.dwellPair = none := by
  obtain ⟨hm, -, hr, -⟩ := h
  obtain ⟨hlast, hdwell⟩ := hf
  have hnone := filterMap_of_filter_nil (fun _ => isSome_estimatorReportOf) hr
  have hmode : s.wind.modeIn = .off := by
    rw [hnone, hm] at hlast
    exact Option.some.inj hlast
  refine Classical.byContradiction fun hne => ?_
  rcases hdwell hne with hin | ⟨m, -, hmem⟩
  · rw [hmode] at hin
    exact absurd (inSteering_iff.mp hin) (by decide)
  · rw [← mem_filterMap_estimatorReportOf, hnone] at hmem
    cases hmem

theorem windBelowS_setSectors {w : Wind} {n : Nat} (h : windBelowS w) (hn : sectorCountOk n = true)
    (hd : w.dwellPair = none) : windBelowS (w.setSectors n) := by
  have hcount := sectorCountOk_iff.mp hn
  refine ⟨hcount, fun hv => ?_, fun c hc => ?_, fun d hd' => ?_⟩
  · simp only [Wind.setSectors] at hv ⊢
    simp [hv, h.2.1 hv]
  · simp only [Wind.setSectors] at hc ⊢
    split at hc
    · cases hc
      exact rawSector_lt hcount _
    · next hv =>
      rw [h.2.1 (eq_false_of_ne_true hv)] at hc
      cases hc
  · exact absurd (hd.symm.trans hd') (by simp)

theorem windBelowS_rest {p : WindParams} (h : p.sectors = 12 ∨ p.sectors = 24 ∨ p.sectors = 36) :
    windBelowS { Wind.factory with params := p } :=
  ⟨h, fun _ => rfl, fun c hc => (by cases hc), fun d hd => (by cases hd)⟩

theorem Change.windBelowS (h : Change made plans s t) (hmade : made) (hf : Machine.estimatorFollows s) (hs : windBelowS s.wind) :
    windBelowS t.wind := by
  induction h with
  | trans h1 _ ih1 ih2 => exact ih2 (h1.estimatorFollows hmade hf) (ih1 hf hs)
  | params p s hp hb =>
    unfold Machine.windBelowS
    simp only [hp]
    exact hs
  | sample r p c s => exact windBelowS_arrival hs r p c
  | freshness s => exact ⟨hs.1, fun _ => rfl, fun c hc => (by cases hc), fun d hd => (by cases hd)⟩
  | spend p s h =>
    refine windBelowS_spend hs ?_
    rcases h with hd | ⟨-, hc⟩
    · obtain ⟨d, hpair, rfl⟩ := Option.map_eq_some_iff.mp hd
      exact hs.2.2.2 d hpair
    · exact hs.2.2.1 _ (Wind.candidate_sector hc)
  | estimatorTakes m w rs s h hw hr =>
    rw [hw]
    exact windBelowS_estimatorMode m hs
  | sectors n s h hn => exact windBelowS_setSectors hs hn (dwell_of_geometryFree hf h)
  | factory b x s hp => exact windBelowS_rest (.inr (.inl rfl))
  | load i x s hp hi => exact windBelowS_rest (sectorCountOk_iff.mp (Image.contentOk_wind hi).2)
  | restart s hp => exact windBelowS_rest hs.1
  | _ => exact hs

/-- Settles O59: each invariant is kept by every elementary change; the last two need that the block follows the mode. -/
theorem everyStepKeepsInvariants : Obligations.EveryStepKeepsInvariants := by
  intro s t h
  obtain ⟨cs, hc⟩ := step_change h
  refine ⟨fun hs => ?_, hc.ringInOrder, hc.steeringAgrees, hc.trimsInRange, hc.tablesCanonical, hc.banksAgree,
    fun hmade => ⟨hc.plannerFollows hmade, hc.estimatorFollows hmade, hc.buildsReadValidBank hmade, hc.windBelowS hmade⟩⟩
  obtain ⟨hs2f, hf2s, hinj, hinbox, hreplies, hring⟩ := hs
  obtain ⟨ht1, ht2, ht3, ht4, ht5⟩ := hc.lineBounded ⟨hs2f, hf2s, hinj, hinbox, hreplies⟩
  exact ⟨ht1, ht2, ht3, ht4, ht5, hc.ring_length hring⟩

/-! ### The reset state -/

/-- The number after a record's. -/
theorem sequence_step {a b : Nat} (ha : 1 ≤ a ∧ a ≤ 4294967295) (h : b = if a = 4294967295 then 1 else a + 1) :
    b - 1 = (a - 1 + 1) % 4294967295 := by
  split at h <;> omega

/-- In an ordered ring the numbers count up from the first, modulo their range. -/
theorem sequence_of_ringOrdered (h : ringOrdered s) {x : MoveRecord} (hx : s.gate.ring[0]? = some x) (i : Nat)
    {r : MoveRecord} (hr : s.gate.ring[i]? = some r) : r.sequence - 1 = (x.sequence - 1 + i) % 4294967295 := by
  obtain ⟨-, -, hrange, -, hnext⟩ := h
  induction i generalizing r with
  | zero =>
    rw [hx] at hr
    cases hr
    have := hrange x (List.mem_of_getElem? hx)
    omega
  | succ i ih =>
    obtain ⟨hlen, -⟩ := List.getElem?_eq_some_iff.mp hr
    obtain ⟨a, ha⟩ : ∃ a, s.gate.ring[i]? = some a := ⟨_, List.getElem?_eq_getElem (by omega)⟩
    have hstep := sequence_step (hrange a (List.mem_of_getElem? ha)) (hnext i a r ha hr)
    have hprev := ih ha
    omega

theorem ringDistinct_of_ringOrdered (h : ringOrdered s) : ringDistinct s := by
  unfold ringDistinct
  have hseq := @sequence_of_ringOrdered s h
  obtain ⟨hlen, -, hrange, -⟩ := h
  refine List.pairwise_iff_getElem.mpr fun i j hi hj hlt => ?_
  rw [List.length_map] at hi hj
  simp only [List.getElem_map]
  intro hij
  have h0 : s.gate.ring[0]? = some s.gate.ring[0] := List.getElem?_eq_getElem (by omega)
  have hri := hseq h0 i (List.getElem?_eq_getElem hi)
  have hrj := hseq h0 j (List.getElem?_eq_getElem hj)
  rw [hij] at hri
  omega

/-- Settles O60. -/
theorem resetMeetsInvariants : Obligations.ResetMeetsInvariants := by
  refine ⟨⟨⟨by decide, by decide, by decide⟩, gateBounded_factory, ?_, ringInOrder_empty rfl rfl, rfl,
    fun k => ⟨Nat.le_of_ble_eq_true rfl, Nat.le_of_ble_eq_true rfl⟩, ?_, ⟨fun h => (by cases h), fun h => (by cases h)⟩,
    plannerFollows_rest rfl rfl rfl, estimatorFollows_rest rfl rfl rfl rfl, buildsReadValidBank_rest rfl rfl rfl rfl,
    windBelowS_rest (.inr (.inl rfl))⟩, fun s => ringDistinct_of_ringOrdered⟩
  · exact ⟨Nat.zero_le _, Nat.zero_le _, Nat.zero_le _, Nat.zero_le _, Nat.zero_le _, Nat.zero_le _⟩
  · exact ⟨rfl, rfl, rfl, rfl, rfl, rfl, rfl, rfl, rfl, rfl, rfl⟩

end Sys2Proof.Machine
end

/-! PROOFS. Requests: what one comes to in its unit, the envelope (O3), the reads (O5, O6, O7) and the parameters (O8, O21). -/

section
namespace Sys2Proof.Machine

variable {s s0 t : State} {c : Instr} {h : ReqHead} {u : Nat}

/-! ### What a request comes to -/

/-- A request that is handed is answered as its unit's work says. -/
theorem answers_of_work {work : State → State} (he : exec c s = s.handed c h u work) (hs : s.handsOver c h u s0) {v : State}
    {st : Status} {r : List Byte} (hw : work s0 = v.answer h u st r) : answers c s h u st r v := by
  unfold answers
  rw [he, State.handed_of_handsOver _ hs, hw]

/-- The same of a request that is answered at once. -/
theorem answers_of_atOnce {work : State → Answer} (he : exec c s = s.atOnce c h u work) (hs : s.handsOver c h u s0) {v : State}
    {st : Status} {r : List Byte} (hw : work s0 = (v, st, r)) : answers c s h u st r v :=
  answers_of_work he hs (by rw [hw])

/-- Every request row hands its work to its unit (Table 11-3). -/
theorem handed_of_requestAt (hc : requestAt c = some (h, u)) : ∃ work, ∀ s, exec c s = s.handed c h u work := by
  cases c <;> cases hc <;> exact ⟨_, fun s => rfl⟩

/-- Settles O3: every request row goes through `State.takeRequest` and `State.handed`. -/
theorem envelopeIsJudgedInOrder : Obligations.EnvelopeIsJudgedInOrder := by
  refine ⟨fun s r rest hp hh hr hi => ?_, fun s c hp hh hr hi => ?_, fun s c hc hn => ?_, fun s s0 c h u hc ht => ⟨?_, ?_⟩,
    fun s s0 h c u hs hc => ?_, fun r s s0 ht => ?_⟩
  · simp [State.takeRequest, Dispatcher.ready, hp, hh, hr, hi, State.onLine]
  · simp [State.takeRequest, Dispatcher.ready, hp, hh, hr, hi]
  · have hnone := State.takeRequest_eq_none hn
    rcases hc with hc | ⟨r, rfl⟩
    · obtain ⟨⟨h, u⟩, hc⟩ := Option.isSome_iff_exists.mp hc
      obtain ⟨work, he⟩ := handed_of_requestAt hc
      rw [he, State.handed_of_not_taken _ hnone]
    · simp only [exec, execUnknownRequest, hnone]
  · intro h255
    obtain ⟨work, he⟩ := handed_of_requestAt hc
    unfold answers
    rw [he, State.handed_of_255 _ ht h255]
  · intro h255 hbusy
    obtain ⟨work, he⟩ := handed_of_requestAt hc
    unfold answers
    rw [he, State.handed_of_busy _ ht h255 ?_]
    rcases hbusy with ⟨rfl, hl⟩ | ⟨rfl, hl⟩
    · simp [Dispatcher.unitBusy, unitPlanner, Option.isSome_iff_ne_none.mpr hl]
    · simp [Dispatcher.unitBusy, unitImage, Option.isSome_iff_ne_none.mpr hl]
  · rcases hc with ⟨rfl, hc⟩ | ⟨rfl, hc⟩ | ⟨rfl, hc⟩ | ⟨rfl, hc⟩ | ⟨rfl, hc⟩ | ⟨rfl, hc⟩ | ⟨rfl, hc⟩ | ⟨rfl, hc⟩ | ⟨rfl, hc⟩
    · rcases hc with rfl | rfl | rfl | rfl | rfl <;> exact answers_of_work rfl hs rfl
    · rcases hc with rfl | rfl | rfl <;> exact answers_of_work rfl hs rfl
    · rcases hc with rfl | rfl | rfl | rfl | rfl <;> exact answers_of_work rfl hs rfl
    · rcases hc with rfl | rfl | rfl | rfl | rfl <;> exact answers_of_work rfl hs rfl
    · rcases hc with rfl | rfl | rfl | rfl | rfl <;> exact answers_of_work rfl hs rfl
    · rcases hc with rfl | rfl | rfl | rfl <;> exact answers_of_work rfl hs rfl
    · rcases hc with rfl | rfl | rfl <;> exact answers_of_work rfl hs rfl
    · rcases hc with rfl | rfl <;> exact answers_of_work rfl hs rfl
    · rcases hc with rfl | rfl <;> exact answers_of_work rfl hs rfl
  · have hjudged : ∀ st, s0.dispatcher.envelopeStatus r = some st →
        answers (.unknownRequest r) s r.head r.unitCode.toNat st [] s0 := fun st hst => by
      simp only [answers, exec, execUnknownRequest, ht, hst]
    refine ⟨fun h1 => hjudged _ ?_, fun h1 h2 => hjudged _ ?_, fun h1 h2 h3 => hjudged _ ?_, fun h1 h2 h3 h4 => hjudged _ ?_,
      fun h1 h2 h3 h4 => ?_⟩
    · simp [Dispatcher.envelopeStatus, h1]
    · simp [Dispatcher.envelopeStatus, h1, h2]
    · simp [Dispatcher.envelopeStatus, h1, Option.isSome_iff_ne_none.mp h2, lengthsAgree, h3]
    · simp [Dispatcher.envelopeStatus, h1, Option.isSome_iff_ne_none.mp h2, lengthsAgree, h3, h4]
    · have hpass : s0.dispatcher.envelopeStatus r = none := by
        simp [Dispatcher.envelopeStatus, h1, Option.isSome_iff_ne_none.mp h2, lengthsAgree, h3, h4]
      simp only [exec, execUnknownRequest, ht, hpass]

/-! ### Reads -/

/-- Settles O5. -/
theorem readsAnswerAndChangeNothing : Obligations.ReadsAnswerAndChangeNothing := by
  intro s s0 h
  refine ⟨fun t hs => ?_, fun r hs => ?_, fun hs => ?_, fun hs => ?_, fun hs => ?_, fun hs => ?_, fun hs => ?_, fun hs => ?_,
    fun hs => ?_, fun hs => ?_, fun hs => ?_, fun hs => ?_⟩
  · split
    · next ht => exact answers_of_atOnce rfl hs (if_pos ht)
    · next ht => exact answers_of_atOnce rfl hs (if_neg ht)
  · split
    · next hr => exact answers_of_atOnce rfl hs (if_pos hr)
    · next hr => exact answers_of_atOnce rfl hs (if_neg hr)
  · exact answers_of_atOnce rfl hs rfl
  · exact answers_of_atOnce rfl hs rfl
  · exact answers_of_atOnce rfl hs rfl
  · exact answers_of_atOnce rfl hs rfl
  · exact answers_of_atOnce rfl hs rfl
  · exact answers_of_atOnce rfl hs rfl
  · exact answers_of_atOnce rfl hs rfl
  · exact answers_of_atOnce rfl hs rfl
  · split
    · next hn => exact answers_of_atOnce rfl hs (if_neg (by simp [hn]))
    · next hn => exact answers_of_atOnce rfl hs (if_pos (Option.isSome_iff_ne_none.mpr hn))
  · exact answers_of_atOnce rfl hs rfl

/-- A ring that wraps has a record numbered below its oldest. -/
theorem Gate.ringWraps_iff {g : Gate} {oldest : MoveRecord} (ho : g.ring.head? = some oldest) :
    g.ringWraps = true ↔ ∃ x ∈ g.ring, x.sequence < oldest.sequence := by
  obtain ⟨rest, hr⟩ := List.head?_eq_some_iff.mp ho
  simp [Gate.ringWraps, hr]

theorem Gate.record_isNone_iff {g : Gate} {n : Nat} : (g.record n).isNone = true ↔ ∀ r ∈ g.ring, r.sequence ≠ n := by
  simp [Gate.record, List.find?_eq_none]

/-- The records of a READ_MOVES from `first` on: of an unwrapped ring those not below it, of a wrapped one those from its own place
on (R115, log entry 41). -/
theorem Gate.recordsFrom_of_kept {g : Gate} {first count : Nat} {kept : List MoveRecord}
    (hk : (∀ oldest rest, g.ring = oldest :: rest → oldest.sequence ≤ first ∧ ∀ r ∈ rest, oldest.sequence ≤ r.sequence) ∧
        kept = g.ring.filter (fun r => decide (first ≤ r.sequence)) ∨
      (∃ oldest before r after, g.ring.head? = some oldest ∧ g.ring = before ++ r :: after ∧ r.sequence = first ∧
        (∀ x ∈ before, x.sequence ≠ first) ∧ (∃ x ∈ g.ring, x.sequence < oldest.sequence) ∧ kept = r :: after)) :
    g.recordsFrom first count = kept.take count := by
  rcases hk with ⟨hring, rfl⟩ | ⟨oldest, before, r, after, ho, hr, hfirst, hbefore, hwrap, rfl⟩
  · refine Gate.recordsFrom_of_not_wraps ?_ _ _
    unfold Gate.ringWraps
    split
    · rfl
    · next oldest rest hg =>
      obtain ⟨-, hrest⟩ := hring oldest rest hg
      rw [hg, List.any_eq_false]
      intro x hx
      rcases List.mem_cons.mp hx with rfl | hx
      · simp
      · simpa using hrest x hx
  · have hdrop : (before ++ r :: after).dropWhile (fun r => r.sequence != first) = r :: after := by
      rw [List.dropWhile_append_of_pos fun x hx => by simpa using hbefore x hx, List.dropWhile_cons_of_neg (by simp [hfirst])]
    rw [Gate.recordsFrom, if_pos ((Gate.ringWraps_iff ho).mpr hwrap), hr, hdrop]

/-- Settles O6. -/
theorem readMovesReturnsRetainedRecords : Obligations.ReadMovesReturnsRetainedRecords := by
  intro s s0 h first count hs
  have hread : ∀ st r, s0.gate.readMoves first count = (st, r) → answers (.readMoves h (some (first, count))) s h 5 st r s0 :=
    fun st r hr => answers_of_atOnce rfl hs (congrArg (Prod.mk s0) hr)
  refine ⟨fun hn => hread _ _ ?_, fun h1 h16 oldest rest hring hlow hnone => hread _ _ ?_, fun h1 h16 kept hk => hread _ _ ?_⟩
  · have hout : within 1 16 count = false := by
      rw [← Bool.not_eq_true, within_iff]
      omega
    simp [Gate.readMoves, hout]
  · have hin : within 1 16 count = true := within_iff.mpr ⟨h1, h16⟩
    simp only [Gate.readMoves, hin, Bool.not_true, Bool.false_eq_true, if_false, hring, List.head?_cons]
    exact if_pos ⟨hlow, Gate.record_isNone_iff.mpr hnone⟩
  · have hin : within 1 16 count = true := within_iff.mpr ⟨h1, h16⟩
    have hresult : s0.gate.movesResult first count = encOption u32 (s0.gate.ring.head?.map (·.sequence)) ++
        encOption u32 (s0.gate.ring.getLast?.map (·.sequence)) ++ encList encRecord (kept.take count) := by
      rw [Gate.movesResult, Gate.recordsFrom_of_kept hk]
    rw [← hresult]
    simp only [Gate.readMoves, hin, Bool.not_true, Bool.false_eq_true, if_false]
    split
    · rfl
    · next oldest ho =>
      refine if_neg fun ⟨hlow, hnone⟩ => ?_
      rw [Gate.record_isNone_iff] at hnone
      rcases hk with ⟨hring, -⟩ | ⟨-, before, r, after, -, hr, hfirst, -⟩
      · obtain ⟨rest, hrest⟩ := List.head?_eq_some_iff.mp ho
        exact absurd (hring oldest rest hrest).1 (by omega)
      · exact hnone r (by rw [hr]; simp) hfirst

theorem readBusy_iff {k : TableStore} {r : Role} : k.readBusy r = true ↔ r = .shadow ∧ k.refill ≠ none := by
  simp [TableStore.readBusy, Option.isSome_iff_ne_none]

/-- The conditions of READ_OFFSETS as R73 lists them. -/
theorem readOffsetsOk_iff {n : Nat} {x : ReadOffsetsArgs} :
    (runOk n x.sector x.band x.page x.start && within 1 64 x.count) = true ↔
      x.sector < n ∧ x.band < 8 ∧ x.page < 4 ∧ x.start < 64 ∧ 1 ≤ x.count ∧ x.count ≤ 64 := by
  simp [runOk, within_iff, and_assoc]

/-- A read of a table: refused for its arguments, busy, or answered (R73). -/
theorem answers_of_tableRead {work : State → Answer} (he : exec c s = s.atOnce c h u work) (hs : s.handsOver c h u s0)
    {ok busy : Bool} {r : List Byte}
    (hw : work s0 = if !ok then refuse .badArg s0 else if busy then refuse .busy s0 else (s0, .ok, r)) :
    (ok = false → answers c s h u .badArg [] s0) ∧
      (ok = true → (busy = true → answers c s h u .busy [] s0) ∧ (busy = false → answers c s h u .ok r s0)) := by
  refine ⟨?_, fun h1 => ⟨?_, ?_⟩⟩
  · rintro rfl
    exact answers_of_atOnce he hs hw
  · rintro rfl
    subst h1
    exact answers_of_atOnce he hs hw
  · rintro rfl
    subst h1
    exact answers_of_atOnce he hs hw

/-- Settles O7. -/
theorem tableReadsReturnTheNamedBank : Obligations.TableReadsReturnTheNamedBank := by
  intro s s0 h
  refine ⟨fun x hs => ?_, fun role sector hs => ?_⟩
  · obtain ⟨hbad, hgood⟩ := answers_of_tableRead
      (ok := runOk s0.wind.params.sectors x.sector x.band x.page x.start && within 1 64 x.count)
      (busy := s0.tables.readBusy x.role) rfl hs rfl
    refine ⟨fun hn => hbad (Bool.eq_false_iff.mpr fun hok => hn (readOffsetsOk_iff.mp hok)),
      fun h1 h2 h3 h4 h5 h6 => ⟨fun hb => ?_, fun hb => ?_⟩⟩
    · exact (hgood (readOffsetsOk_iff.mpr ⟨h1, h2, h3, h4, h5, h6⟩)).1 (readBusy_iff.mpr hb)
    · exact (hgood (readOffsetsOk_iff.mpr ⟨h1, h2, h3, h4, h5, h6⟩)).2 (Bool.eq_false_iff.mpr fun hr => hb (readBusy_iff.mp hr))
  · obtain ⟨hbad, hgood⟩ := answers_of_tableRead (ok := decide (sector < s0.wind.params.sectors))
      (busy := s0.tables.readBusy role) rfl hs rfl
    refine ⟨fun hn => hbad (decide_eq_false (Nat.not_lt.mpr hn)), fun hn => ⟨fun hb => ?_, fun hb => ?_⟩⟩
    · exact (hgood (decide_eq_true hn)).1 (readBusy_iff.mpr hb)
    · exact (hgood (decide_eq_true hn)).2 (Bool.eq_false_iff.mpr fun hr => hb (readBusy_iff.mp hr))

/-! ### Parameters -/

/-- A parameter request: values in range are taken and answered OK, others refused (R61). -/
theorem answers_of_params {p : Prop} [Decidable p] {ok : Bool} {work : State → Answer} {v : State}
    (he : exec c s = s.atOnce c h u work) (hs : s.handsOver c h u s0) (hp : ok = true ↔ p)
    (hw : work s0 = if ok then accept v else refuse .badArg s0) :
    if p then answers c s h u .ok [] v else answers c s h u .badArg [] s0 := by
  split
  · next hyes => exact answers_of_atOnce he hs (hw.trans (if_pos (hp.mpr hyes)))
  · next hno => exact answers_of_atOnce he hs (hw.trans (if_neg fun hok => hno (hp.mp hok)))

theorem bandsOk_iff {t1 t2 t3 t4 t5 t6 t7 hs : Nat} : bandsOk ⟨[t1, t2, t3, t4, t5, t6, t7], hs⟩ = true ↔
    hs ≤ 20 ∧ t7 ≤ 400 ∧ t1 + 2 * hs < t2 ∧ t2 + 2 * hs < t3 ∧ t3 + 2 * hs < t4 ∧ t4 + 2 * hs < t5 ∧
      t5 + 2 * hs < t6 ∧ t6 + 2 * hs < t7 := by
  simp [bandsOk, gapsOk, within_iff]
  omega

/-- Settles O8. -/
theorem parameterRequestsReplaceValues : Obligations.ParameterRequestsReplaceValues := by
  intro s s0 h
  refine ⟨fun x hs => ?_, fun t1 t2 t3 t4 t5 t6 t7 hy hs => ?_, fun x hs hlen => ?_, fun x hs => ?_, fun sector v hs => ?_,
    fun d0 d1 d2 d3 e hs => ?_⟩
  · refine answers_of_params rfl hs (ok := windRangesOk x) ?_ rfl
    simp [windRangesOk, within_iff, and_assoc]
  · exact answers_of_params rfl hs bandsOk_iff rfl
  · refine answers_of_params rfl hs (ok := budgetsOk x) ?_ rfl
    simp [budgetsOk, within_iff, hlen]
  · refine answers_of_params rfl hs (ok := arrivalRangesOk x) ?_ rfl
    simp [arrivalRangesOk, within_iff, and_assoc]
  · have hw := answers_of_params (p := sector < s0.wind.params.sectors ∧ 32 ≤ v ∧ v ≤ 128) rfl hs
      (ok := decide (sector < s0.wind.params.sectors) && within 32 128 v) (by simp [within_iff]) rfl
    split
    · next hp =>
      rw [if_pos hp] at hw
      exact ⟨_, hw, rfl, Table.get_set_same .., fun k hk => Table.get_set_other _ _ hk _⟩
    · next hp =>
      rw [if_neg hp] at hw
      exact hw
  · refine answers_of_params rfl hs (ok := noticesOk ⟨[d0, d1, d2, d3], e⟩) ?_ rfl
    simp [noticesOk, within_iff, and_assoc, or_assoc]

end Sys2Proof.Machine
end

/-! PROOFS. The Fleet Table's requests and the geometry requests: what they answer and what they leave (O17-O22, O26). -/

section
namespace Sys2Proof.Machine

variable {s s0 t v : State} {c : Instr} {h : ReqHead} {u : Nat}

/-! ### One turbine's cells -/

section
variable (f : Fleet) (i : Nat)

@[simp] theorem Fleet.setDynamic_dynamic_same (d : TurbineDynamic) : (f.setDynamic i d).dynamic i = d :=
  Table.get_set_same ..

@[simp] theorem Fleet.setDynamic_dynamic_other {j : Nat} (hj : j ≠ i) (d : TurbineDynamic) :
    (f.setDynamic i d).dynamic j = f.dynamic j :=
  Table.get_set_other _ _ hj _

@[simp] theorem Fleet.setDynamic_static (d : TurbineDynamic) (j : Nat) : (f.setDynamic i d).static j = f.static j := rfl

@[simp] theorem Fleet.setStatic_static_same (d : TurbineStatic) : (f.setStatic i d).static i = d :=
  Table.get_set_same ..

@[simp] theorem Fleet.setStatic_static_other {j : Nat} (hj : j ≠ i) (d : TurbineStatic) :
    (f.setStatic i d).static j = f.static j :=
  Table.get_set_other _ _ hj _

@[simp] theorem Fleet.setStatic_dynamic (d : TurbineStatic) (j : Nat) : (f.setStatic i d).dynamic j = f.dynamic j := rfl

@[simp] theorem Fleet.setRow_row_same (w : Row) : (f.setRow i w).row i = w :=
  Table.get_set_same ..

@[simp] theorem Fleet.setRow_row_other {j : Nat} (hj : j ≠ i) (w : Row) : (f.setRow i w).row j = f.row j :=
  Table.get_set_other _ _ hj _

@[simp] theorem Fleet.setRow_static (w : Row) (j : Nat) : (f.setRow i w).static j = f.static j := rfl

@[simp] theorem Fleet.setRow_dynamic (w : Row) (j : Nat) : (f.setRow i w).dynamic j = f.dynamic j := rfl

@[simp] theorem Fleet.setDynamic_rows (d : TurbineDynamic) : (f.setDynamic i d).rows = f.rows := rfl

@[simp] theorem Fleet.setStatic_rows (d : TurbineStatic) : (f.setStatic i d).rows = f.rows := rfl

@[simp] theorem Fleet.setDynamic_row (d : TurbineDynamic) (r : Nat) : (f.setDynamic i d).row r = f.row r := rfl

@[simp] theorem Fleet.setStatic_row (d : TurbineStatic) (r : Nat) : (f.setStatic i d).row r = f.row r := rfl

end

theorem knownTurbine_iff {i : Nat} : s.knownTurbine i = true ↔ i < 256 ∧ s.fleet.populated i = true := by
  simp only [State.knownTurbine, Bool.and_eq_true, decide_eq_true_eq]
  rfl

/-- Settles O17. -/
theorem staleTimerAndClearFault : Obligations.StaleTimerAndClearFault := by
  refine ⟨fun s i d hp hd => ?_, fun s s0 h i hs => ?_⟩
  · refine ⟨(s.elapse (d - s.clock)).onFleet (Fleet.staleExpired i), ?_, rfl, rfl, rfl, fun j hj => ?_, ?_⟩
    · simp only [exec, execStaleExpiry, State.event_powered hp, hd, State.expire_running]
    · exact Fleet.setDynamic_dynamic_other _ _ hj _
    · exact Fleet.setDynamic_dynamic_same ..
  · split
    · next hi =>
      have hans : answers (.clearFault h (some i)) s h 1 .ok [] (s0.onFleet (Fleet.clearFault i)) :=
        answers_of_atOnce rfl hs (if_pos (knownTurbine_iff.mpr hi))
      refine ⟨_, hans, rfl, ?_, ?_, fun j hj => ?_, ?_⟩
      · simp only [State.onFleet_fleet, Fleet.clearFault]
        split <;> rfl
      · simp only [State.onFleet_fleet, Fleet.clearFault]
        split <;> rfl
      · simp only [State.onFleet_fleet, Fleet.clearFault]
        split
        · exact Fleet.setDynamic_dynamic_other _ _ hj _
        · rfl
      · simp only [State.onFleet_fleet, Fleet.clearFault]
        split
        · next hf =>
          rw [Fleet.setDynamic_dynamic_same]
          cases (s0.fleet.dynamic i).stale <;> rfl
        · rfl
    · next hi => exact answers_of_atOnce rfl hs (if_neg (mt knownTurbine_iff.mp hi))

/-- Settles O21. -/
theorem referenceAndCorrectionAreSet : Obligations.ReferenceAndCorrectionAreSet := by
  intro s s0 h
  refine ⟨fun i on hs => ?_, fun i c g hs => ?_⟩
  · split
    · next hi =>
      exact ⟨_, answers_of_atOnce rfl hs (if_pos (knownTurbine_iff.mpr hi)), rfl, Fleet.setStatic_static_same ..,
        fun j hj => Fleet.setStatic_static_other _ _ hj _⟩
    · next hi => exact answers_of_atOnce rfl hs (if_neg (mt knownTurbine_iff.mp hi))
  · have hok : (s0.knownTurbine i && correctionOk c g) = true ↔
        i < 256 ∧ s0.fleet.populated i = true ∧ -300 ≤ c ∧ c ≤ 300 ∧ 2048 ≤ g ∧ g ≤ 4096 := by
      simp [knownTurbine_iff, correctionOk, withinInt, within_iff, and_assoc]
    split
    · next hi =>
      exact ⟨_, answers_of_atOnce rfl hs (if_pos (hok.mpr hi)), rfl, Fleet.setStatic_static_same ..,
        fun j hj => Fleet.setStatic_static_other _ _ hj _⟩
    · next hi => exact answers_of_atOnce rfl hs (if_neg (mt hok.mp hi))

/-! ### The conditions of a geometry request -/

theorem geometryRefused_badMode (hm : s.modes.mode ≠ .off) : s.geometryRefused = some .badMode := if_pos hm

theorem geometryRefused_busy (hm : s.modes.mode = .off)
    (hb : s.planner.build ≠ none ∨ s.image.save ≠ none ∨ s.tables.commitPending = true) : s.geometryRefused = some .busy := by
  unfold State.geometryRefused
  rw [if_neg (Classical.not_not.mpr hm), if_pos]
  simpa only [Bool.or_eq_true, Option.isSome_iff_ne_none, or_assoc] using hb

theorem geometryRefused_none (hm : s.modes.mode = .off) (hb : s.planner.build = none) (hi : s.image.save = none)
    (hc : s.tables.commitPending = false) : s.geometryRefused = none := by
  simp [State.geometryRefused, hm, hb, hi, hc]

theorem geometry_refused {α : Type} {a : Option α} {ok : α → Bool} {f : α → State → State} {st : Status}
    (hr : s.geometryRefused = some st) : s.geometry a ok f = refuse st s := by
  simp [State.geometry, hr]

theorem geometry_badArg {α : Type} {x : α} {ok : α → Bool} {f : α → State → State} (hr : s.geometryRefused = none)
    (hx : ¬ ok x = true) : s.geometry (some x) ok f = refuse .badArg s := by
  simp [State.geometry, hr, hx]

theorem geometry_taken {α : Type} {x : α} {ok : α → Bool} {f : α → State → State} (hr : s.geometryRefused = none)
    (hx : ok x = true) : s.geometry (some x) ok f = s.takeGeometry (f x) := by
  simp [State.geometry, hr, hx]

/-- Settles O22. -/
theorem geometryNeedsOffAndIdle : Obligations.GeometryNeedsOffAndIdle := by
  intro s s0 h c u hc hs
  have hrefused : ∀ st, s0.geometryRefused = some st → answers c s h u st [] s0 := by
    intro st hst
    rcases hc with ⟨⟨a, rfl⟩, rfl⟩ | ⟨⟨a, rfl⟩, rfl⟩ | ⟨⟨a, rfl⟩, rfl⟩ | ⟨⟨a, rfl⟩, rfl⟩
    · exact answers_of_atOnce (work := fun s => s.geometry a (fun x => s.setTurbineOk x.1 x.2) _) rfl hs (geometry_refused hst)
    · exact answers_of_atOnce (work := fun s => s.geometry a s.knownTurbine _) rfl hs (geometry_refused hst)
    · exact answers_of_atOnce (work := fun s => s.geometry a s.setRowOk _) rfl hs (geometry_refused hst)
    · exact answers_of_atOnce (work := fun s => s.geometry a sectorCountOk _) rfl hs (geometry_refused hst)
  exact ⟨fun hm => hrefused _ (geometryRefused_badMode hm), fun hm hb => hrefused _ (geometryRefused_busy hm hb)⟩

/-! ### The modes settled -/

theorem powered_of_handsOver (hs : s.handsOver c h u s0) : s0.powered = true := by
  obtain ⟨hp, -, rfl⟩ := State.takeRequest_spec hs.1
  exact hp

/-- Commands run one after another have one outcome. -/
theorem runs_unique {cs : List Instr} {s t u : State} (h1 : runs cs s t) (h2 : runs cs s u) : t = u := by
  induction cs generalizing s with
  | nil => exact h1.trans h2.symm
  | cons c cs ih =>
    obtain ⟨x, hx, hxt⟩ := h1
    obtain ⟨y, hy, hyu⟩ := h2
    cases hx.symm.trans hy
    exact ih hxt hyu

theorem eq_of_modesSettled (hp : s.powered = true) (hv : modesSettled s v) : v = s.settleModes :=
  runs_unique hv (modesSettled_settleModes hp)

/-- What the reports of a change of mode to the Estimator and the Planner leave of the farm and of the estimate (R58, R101). -/
def farmKept (s t : State) : Prop :=
  t.fleet = s.fleet ∧ t.wind.params = s.wind.params ∧ t.wind.valid = s.wind.valid ∧ t.wind.direction = s.wind.direction ∧
    t.wind.candidateSector = s.wind.candidateSector

theorem farmKept.trans {s t u : State} (h1 : farmKept s t) (h2 : farmKept t u) : farmKept s u := by
  obtain ⟨a1, b1, c1, d1, e1⟩ := h1
  obtain ⟨a2, b2, c2, d2, e2⟩ := h2
  exact ⟨a2.trans a1, b2.trans b1, c2.trans c1, d2.trans d1, e2.trans e1⟩

theorem farmKept_of_eq (hf : t.fleet = s.fleet) (hw : t.wind = s.wind) : farmKept s t := by
  rw [farmKept, hf, hw]
  exact ⟨rfl, rfl, rfl, rfl, rfl⟩

theorem farmKept_tryBuild (s : State) : farmKept s s.tryBuild := by
  rcases State.tryBuild_cases s with ⟨p, -, -, hb⟩ | hb <;> rw [hb]
  · rw [State.startBuild_frame]
    exact farmKept_of_eq rfl rfl
  · exact farmKept_of_eq rfl rfl

theorem farmKept_plannerMode (m : Mode) (s : State) : farmKept s (s.plannerMode m) := by
  unfold State.plannerMode
  dsimp only
  split
  · exact farmKept_tryBuild (s.onPlanner fun q => { q with modeIn := m })
  · repeat' split
    any_goals exact farmKept_of_eq rfl rfl
    rw [State.lateAnswer_frame]
    exact farmKept_of_eq rfl rfl

theorem farmKept_estimatorMode (m : Mode) (s : State) : farmKept s (s.estimatorMode m) := by
  refine ⟨?_, ?_⟩
  · rw [State.estimatorMode_frame]
  · rw [State.estimatorMode_wind]
    exact ⟨rfl, rfl, rfl, rfl⟩

theorem farmKept_takeModes (c : Instr) (s : State) : farmKept s ((s.takeAtEstimator c).takeAtPlanner c) := by
  refine farmKept.trans (t := s.takeAtEstimator c) ?_ ?_
  · unfold State.takeAtEstimator
    split
    · exact farmKept_estimatorMode _ _
    · exact farmKept_of_eq rfl rfl
  · unfold State.takeAtPlanner
    split
    · exact farmKept_plannerMode _ _
    · exact farmKept_of_eq rfl rfl

theorem farmKept_settleModes (s : State) : farmKept s s.settleModes := by
  unfold State.settleModes State.takeEach
  generalize s.reports.filter modeToEither = cs
  induction cs generalizing s with
  | nil => exact farmKept_of_eq rfl rfl
  | cons c cs ih =>
    have hfirst : farmKept s (((s.arrive c).takeAtEstimator c).takeAtPlanner c) := farmKept_takeModes c (s.arrive c)
    exact hfirst.trans (ih _)

/-- A geometry request whose conditions hold, with arguments in range, is answered OK from the state the reports of the mode leave
(R14, log entry 52). -/
theorem answers_of_geometry {α : Type} {x : α} {ok : State → α → Bool} {f : α → State → State}
    (he : exec c s = s.atOnce c h u fun s => s.geometry (some x) (ok s) f) (hs : s.handsOver c h u s0)
    (hv : modesSettled s0 v) (hm : s0.modes.mode = .off) (hb : s0.planner.build = none) (hi : s0.image.save = none)
    (hc : s0.tables.commitPending = false) :
    (¬ ok s0 x = true → answers c s h u .badArg [] s0) ∧
      (ok s0 x = true → answers c s h u .ok [] ((f x v).onTables fun t => { t with valid := false })) := by
  have hnone := geometryRefused_none hm hb hi hc
  refine ⟨fun hx => answers_of_atOnce he hs (geometry_badArg hnone hx), fun hx => ?_⟩
  rw [eq_of_modesSettled (powered_of_handsOver hs) hv]
  exact answers_of_atOnce he hs (geometry_taken hnone hx)

theorem farmKept_of_modesSettled (hs : s.handsOver c h u s0) (hv : modesSettled s0 v) : farmKept s0 v := by
  rw [eq_of_modesSettled (powered_of_handsOver hs) hv]
  exact farmKept_settleModes _

/-! ### The four geometry requests -/

theorem setTurbineOk_iff {i a : Nat} : s.setTurbineOk i a = true ↔
    i < 256 ∧ 1 ≤ a ∧ a ≤ 65534 ∧ a ≠ s.line.node ∧ ∀ c ∈ s.fleet.statics.cells, c.1 ≠ i → c.2.address ≠ some a := by
  simp only [State.setTurbineOk, Fleet.addressHeldByOther, Bool.and_eq_true, decide_eq_true_eq, within_iff,
    Bool.not_eq_true', List.any_eq_false, bne_iff_ne, beq_iff_eq, ne_eq, not_and]
  simp only [Config.turbines]
  exact ⟨fun ⟨⟨⟨hi, hlow, hhigh⟩, hcells⟩, hnode⟩ => ⟨hi, hlow, hhigh, hnode, hcells⟩,
    fun ⟨hi, hlow, hhigh, hnode, hcells⟩ => ⟨⟨⟨hi, hlow, hhigh⟩, hcells⟩, hnode⟩⟩

/-- Settles O18. -/
theorem setTurbineActsByRecord : Obligations.SetTurbineActsByRecord := by
  intro s s0 v h i a hs hv hm hb hi hc
  obtain ⟨hbad, hok⟩ := answers_of_geometry (x := (i, a)) (ok := fun s x => s.setTurbineOk x.1 x.2) rfl hs hv hm hb hi hc
  obtain ⟨hfleet, -⟩ := farmKept_of_modesSettled hs hv
  refine ⟨fun hn => hbad (mt setTurbineOk_iff.mp hn), fun h1 h2 h3 h4 h5 => ?_⟩
  refine ⟨_, hok (setTurbineOk_iff.mpr ⟨h1, h2, h3, h4, h5⟩), rfl, ?_⟩
  simp only [State.onTables_fleet, State.onFleet_fleet, Fleet.setTurbine]
  rw [hfleet]
  refine ⟨?_, fun j hj => ?_, fun hnone => ?_, fun hsame => ?_, fun b hold hne => ?_⟩
  · repeat' split
    all_goals rfl
  · repeat' split
    all_goals simp [hj]
  · simp [hnone]
  · simp [hsame]
  · simp [hold, hne]

/-- Settles O19. -/
theorem clearTurbineLeavesItsRow : Obligations.ClearTurbineLeavesItsRow := by
  intro s s0 v h i hs hv hm hb hi hc
  obtain ⟨hbad, hok⟩ := answers_of_geometry (x := i) (ok := State.knownTurbine) rfl hs hv hm hb hi hc
  obtain ⟨hfleet, -⟩ := farmKept_of_modesSettled hs hv
  refine ⟨fun hn => hbad (mt knownTurbine_iff.mp hn), fun h1 h2 => ?_⟩
  refine ⟨_, hok (knownTurbine_iff.mpr ⟨h1, h2⟩), rfl, ?_⟩
  simp only [State.onTables_fleet, State.onFleet_fleet, Fleet.clearTurbine]
  rw [hfleet]
  refine ⟨by simp, by simp, fun j hj => ?_, fun hnone => by simp [hnone], fun r k hplace => ?_⟩
  · split <;> simp [hj]
  · simp only [hplace, Fleet.setDynamic_row, Fleet.setStatic_row, Fleet.setRow_row_same, Row.without]
    refine ⟨trivial, fun href => if_pos href, fun href => if_neg href, fun q hq => Fleet.setRow_row_other _ _ hq _⟩

theorem setRowOk_iff {r : Nat} {ms : List Nat} {ref : Option Nat} : s.setRowOk ⟨r, ms, ref⟩ = true ↔
    r < 16 ∧ ms.length ≤ 32 ∧ ms.Nodup ∧ (∀ m ∈ ms, m < 256 ∧ s.fleet.populated m = true) ∧
      (∀ c ∈ s.fleet.rows.cells, c.1 ≠ r → ∀ m ∈ ms, m ∉ c.2.members) ∧ (∀ x, ref = some x → x ∈ ms) := by
  have hother : (ms.all fun m => !s.fleet.rows.cells.any fun c => c.1 != r && c.2.members.contains m) = true ↔
      ∀ c ∈ s.fleet.rows.cells, c.1 ≠ r → ∀ m ∈ ms, m ∉ c.2.members := by
    simp only [List.all_eq_true, Bool.not_eq_true', List.any_eq_false, Bool.and_eq_true, bne_iff_ne, List.contains_iff_mem,
      not_and]
    exact ⟨fun hall c hc hne m hm => hall m hm c hc hne, fun hall m hm c hc hne => hall c hc hne m hm⟩
  simp only [State.setRowOk, Bool.and_eq_true, decide_eq_true_eq, distinct_iff, hother, List.all_eq_true, knownTurbine_iff]
  simp only [Config.rows, Config.rowMembers, and_assoc]
  refine and_congr_right fun _ => and_congr_right fun _ => ?_
  rw [and_left_comm]
  refine and_congr_right fun _ => and_congr_right fun _ => and_congr_right fun _ => ?_
  cases ref with
  | none => exact ⟨fun _ _ hx => (by cases hx), fun _ => rfl⟩
  | some x => simp only [List.contains_iff_mem, Option.some.injEq, forall_eq']

/-- Settles O20. -/
theorem setRowReplacesTheRow : Obligations.SetRowReplacesTheRow := by
  intro s s0 v h r ms ref hs hv hm hb hi hc ok hiff
  obtain ⟨hbad, hok⟩ := answers_of_geometry (x := ⟨r, ms, ref⟩) (ok := State.setRowOk) rfl hs hv hm hb hi hc
  obtain ⟨hfleet, -⟩ := farmKept_of_modesSettled hs hv
  refine ⟨fun hn => hbad (mt setRowOk_iff.mp (mt hiff.mpr hn)), fun hy => ?_⟩
  refine ⟨_, hok (setRowOk_iff.mpr (hiff.mp hy)), ?_, ?_⟩
  · simp only [State.onTables, State.onFleet, Fleet.setRow, hfleet]
  · simp only [State.onTables_fleet, State.onFleet_fleet]
    rw [hfleet]
    exact ⟨Fleet.setRow_row_same .., fun q hq => Fleet.setRow_row_other _ _ hq _⟩

/-- Settles O26. -/
theorem setSectorsRequantizes : Obligations.SetSectorsRequantizes := by
  intro s s0 v h n hs hv hm hb hi hc
  obtain ⟨hbad, hok⟩ := answers_of_geometry (x := n) (ok := fun _ => sectorCountOk) rfl hs hv hm hb hi hc
  obtain ⟨-, hparams, hvalid, hdirection, hsector⟩ := farmKept_of_modesSettled hs hv
  refine ⟨fun hn => ?_, fun h1 h2 h3 => hbad fun hn => ?_⟩
  · have hset : v.wind.setSectors n = { v.wind with
        params := { s0.wind.params with sectors := n }
        candidateSector := if s0.wind.valid = true then
          some (((s0.wind.direction + 3600 / n / 2) % 3600) / (3600 / n)) else s0.wind.candidateSector } := by
      simp only [Wind.setSectors, hparams, hvalid, hdirection, hsector, rawSector, sectorWidth]
    rw [← hset]
    exact hok (sectorCountOk_iff.mpr hn)
  · rcases sectorCountOk_iff.mp hn with hn | hn | hn
    · exact h1 hn
    · exact h2 hn
    · exact h3 hn

end Sys2Proof.Machine
end

/-! PROOFS. The requests of the tables, the Planner, the MODE unit, the link and the image: O29, O30, O33, O35, O52, O58; the
placing of an answer (O4) and SET_LINK (O56). -/

section
namespace Sys2Proof.Machine

variable {s s0 t v : State} {c : Instr} {h : ReqHead} {u : Nat}

/-! ### Commit and swap -/

theorem firstFailing_eq_some {k : Bank} {n : Nat} (hn : n < s.wind.params.sectors) (hbad : ¬ sectorValid s (k.sector n))
    (hgood : ∀ j, j < n → sectorValid s (k.sector j)) : s.validate k = some n := by
  unfold State.validate Bank.firstFailing
  rw [List.find?_range_eq_some]
  refine ⟨?_, List.mem_range.mpr hn, fun j hj => ?_⟩
  · simpa using mt sectorPasses_iff.mp hbad
  · simpa using sectorPasses_iff.mpr (hgood j hj)

theorem swapReady_iff {k : TableStore} :
    k.swapReady = true ↔ k.planInstalled = false ∧ k.plannerBuilding = false ∧ k.saveInProgress = false := by
  simp [TableStore.swapReady, and_assoc]

/-- Settles O29. -/
theorem commitValidatesAndSwaps : Obligations.CommitValidatesAndSwaps := by
  intro s s0 h
  refine ⟨fun hs => ⟨fun hr => ?_, fun hr hc => ?_, fun hr hc => ⟨fun k hk hbad hgood => ?_, fun hgood => ?_⟩⟩, fun hs => ?_⟩
  · exact answers_of_atOnce rfl hs (if_pos (Option.isSome_iff_ne_none.mpr hr))
  · exact answers_of_atOnce rfl hs (by simp [hr, hc, refuse])
  · exact answers_of_atOnce rfl hs (by simp [hr, hc, firstFailing_eq_some hk hbad hgood])
  · have hvalid := validate_none_iff.mpr hgood
    split
    · next hready =>
      exact answers_of_atOnce rfl hs (by
        simp [hr, hc, hvalid, swapReady_iff.mpr hready, accept, State.swap, State.onTables, State.report])
    · next hready =>
      exact answers_of_atOnce rfl hs (by simp [hr, hc, hvalid, mt swapReady_iff.mp hready])
  · split
    · next hc => exact answers_of_atOnce rfl hs (if_pos hc)
    · next hc => exact answers_of_atOnce rfl hs (if_neg hc)

/-- A report of a swap condition adds at most the report of a swap it brings about (R77, R80). -/
theorem State.takeCondition_reports (r : SwapInput) (s : State) :
    s.reports.erase (.swapConditionReport r) <+: (s.takeCondition r).reports := by
  unfold State.takeCondition State.swapConditionReported
  dsimp only
  split
  · exact List.prefix_append _ _
  · exact List.prefix_rfl

theorem State.takeCondition_powered (r : SwapInput) (s : State) : (s.takeCondition r).powered = s.powered := by
  unfold State.takeCondition State.swapConditionReported
  dsimp only
  split <;> rfl

theorem exec_swapConditionReport (hp : s.powered = true) (r : SwapInput) :
    exec (.swapConditionReport r) s = .next (s.takeConditions r) :=
  State.event_powered hp

theorem State.refillCompleted_eq {r : Refill} (hr : s.tables.refill = some r) : s.refillCompleted = { s with
    tables := { s.tables.setBank s.tables.shadow s.tables.activeBank with refill := none }
    notices := s.notices ++ (r.afterSwap.map fun x => Notice.bankSwapped s.tables.active x.1 x.2).toList } := by
  have hactive : (s.tables.setBank s.tables.shadow s.tables.activeBank).active = s.tables.active := by
    cases s.tables.shadow <;> rfl
  cases ha : r.afterSwap with
  | none => simp [State.refillCompleted, hr, ha, State.onTables]
  | some x => simp [State.refillCompleted, hr, ha, State.onTables, State.notify, hactive]

/-- Settles O30. -/
theorem reportsSwapAndRefillCopies : Obligations.ReportsSwapAndRefillCopies := by
  refine ⟨fun s r x first mid hp hahead hfirst hbehind => ?_, fun s r p b v hp hahead hpe hbe hve => ?_, fun s r hp hr => ?_⟩
  · have hstands : standsAhead (.swapConditionReport (.planInstalled x)) s.reports first := by
      refine ⟨hfirst x, .inr ?_⟩
      rcases hahead.2 with he | ⟨after, he⟩
      · exact ⟨mid, he⟩
      · exact ⟨mid ++ .swapConditionReport r :: after, by simp [he]⟩
    have hnone : ¬ standsBehind (.planInstalled x) first := by
      rintro (⟨-, y, hy⟩ | ⟨hy, -⟩)
      · exact hfirst y hy
      · cases hy
    refine ⟨s.takeCondition (.planInstalled x), ?_, State.takeCondition_reports _ s, ?_⟩
    · rw [exec_swapConditionReport hp, State.takeConditions_of_first hstands hnone]
    · rw [exec_swapConditionReport hp, exec_swapConditionReport ((State.takeCondition_powered _ s).trans hp),
        State.takeConditions_of_behind hahead hfirst hbehind]
  · have hone := standsAhead_reportsAhead (.swapConditionReport r) s.reports
    rw [exec_swapConditionReport hp, State.takeConditions_of_first hone (hahead _ hone)]
    cases r <;> subst hpe hbe hve <;>
      simp [State.takeCondition, State.swapConditionReported, State.arrive, State.onTables, TableStore.setInput, State.swap,
        TableStore.swapReady, State.report, TableStore.shadow, State.now, and_assoc]
  · refine ⟨s.refillCompleted, State.event_powered hp, ?_⟩
    rw [State.refillCompleted_eq hr]
    refine ⟨rfl, rfl, fun ha => ?_, fun d n ha => ?_⟩ <;> simp [ha]

/-! ### The Planner's requests -/

/-- What a request that starts a preview leaves, its trim settled (R103, R88). -/
theorem State.startPreview_eq (p : Pair) (s : State) : s.startPreview h p = { s.settleTrims with
    planner := { s.planner with
      preview := none
      build := some ⟨.preview, p, ⟨s.wind.speed, s.settleTrims.monitor.trim p.sector, s.planner.params.gapMin,
        s.planner.params.gapMax, s.planner.params.floor, s.planner.params.biasLimit⟩⟩ }
    tables := { s.tables with plannerBuilding := true }
    dispatcher := { s.dispatcher with plannerLate := some h }
    reports := s.settleTrims.reports.erase (.swapConditionReport (.plannerBuilding false)) } := by
  unfold State.startPreview State.reportBuilding
  dsimp only
  rw [State.reportCondition_plannerBuilding]
  have hframe := State.settleTrims_frame s
  generalize s.settleTrims = u at hframe ⊢
  rw [hframe]
  rfl

/-- Settles O33. -/
theorem previewStartsABuild : Obligations.PreviewStartsABuild := by
  intro s s0 h p hs
  have hrefused : ∀ st, s0.previewRefused (some p) = some st → answers (.preview h (some p)) s h 4 st [] s0 := by
    intro st hst
    exact answers_of_work rfl hs (by simp [hst, unitPlanner])
  refine ⟨fun hb => hrefused _ ?_, fun hb hm => hrefused _ ?_, fun hb hm hp => hrefused _ ?_, fun hb hm h1 h2 =>
    ⟨fun hc => hrefused _ ?_, fun hc hv => hrefused _ ?_, fun hc hv => ?_⟩⟩
  · simp [State.previewRefused, Option.isSome_iff_ne_none.mpr hb]
  · simp [State.previewRefused, hb, hm]
  · simp [State.previewRefused, hb, hm, pairOk, hp]
  · simp [State.previewRefused, hb, hm, pairOk, h1, h2, hc]
  · simp [State.previewRefused, hb, hm, pairOk, h1, h2, hc, hv]
  · refine ⟨s0.settleTrims, s0.startPreview h p, trimsSettled_settleTrims (powered_of_handsOver hs), State.settleTrims_frame s0, ?_,
      State.startPreview_eq p s0⟩
    have hnone : s0.previewRefused (some p) = none := by simp [State.previewRefused, hb, hm, pairOk, h1, h2, hc, hv]
    refine (State.handed_of_handsOver _ hs).trans ?_
    simp [hnone]

theorem planRangesOk_iff {p : PlanParams} : planRangesOk p = true ↔
    50 ≤ p.biasLimit ∧ p.biasLimit ≤ 300 ∧ 10 ≤ p.maxStep ∧ p.maxStep ≤ 100 ∧ p.deadband ≤ 20 ∧
      10 ≤ p.gapMin ∧ p.gapMin ≤ p.gapMax ∧ p.gapMax ≤ 900 ∧ 20 ≤ p.floor ∧ p.floor ≤ 80 ∧ 1 ≤ p.yawRate ∧
      p.yawRate ≤ 20 ∧ 1 ≤ p.settleTol ∧ p.settleTol ≤ 30 ∧ 10 ≤ p.settleMargin ∧ p.settleMargin ≤ 600 ∧
      1 ≤ p.failureLimit ∧ p.failureLimit ≤ 16 ∧ 5 ≤ p.refresh ∧ p.refresh ≤ 120 := by
  simp only [planRangesOk, Bool.and_eq_true, within_iff, decide_eq_true_eq]
  omega

/-- Settles O35. -/
theorem planParamsAndRetarget : Obligations.PlanParamsAndRetarget := by
  refine ⟨fun s s0 h p hs => ?_, fun s s0 h hs => ⟨fun hb => ?_, fun hb hm => ?_, fun hb hm hv => ?_, fun a b hb hm hv ha hband => ?_⟩⟩
  · split
    · next hb => exact answers_of_atOnce rfl hs (if_pos (Option.isSome_iff_ne_none.mpr hb))
    · next hb =>
      rw [Classical.not_not] at hb
      split
      · next hr =>
        have hr := mt planRangesOk_iff.mp hr
        exact answers_of_atOnce rfl hs (by simp [hb, hr, refuse])
      · next hr =>
        have hr := planRangesOk_iff.mpr (Classical.not_not.mp hr)
        split
        · next hm => exact answers_of_atOnce rfl hs (by simp [hb, hr, hm, refuse])
        · next hm => exact answers_of_atOnce rfl hs (by simp [hb, hr, if_neg hm, accept, State.onPlanner])
  · exact answers_of_atOnce rfl hs (if_pos (Option.isSome_iff_ne_none.mpr hb))
  · rw [inSteering_iff] at hm
    exact answers_of_atOnce rfl hs (by simp [hb, hm, refuse])
  · rw [inSteering_iff] at hm
    exact answers_of_atOnce rfl hs (by simp [hb, hm, hv, refuse])
  · rw [inSteering_iff] at hm
    have hcand : s0.wind.candidate = some ⟨a, b⟩ := by simp [Wind.candidate, ha, hband]
    exact answers_of_atOnce rfl hs (by
      simp [hb, hm, hv, hcand, State.trigger, Wind.spend, State.onWind, State.report, encPair])

/-! ### The MODE unit -/

/-- What a change of mode leaves (R159, R160). -/
theorem State.changeMode_eq (cause : ModeCause) (m : Mode) (r : Option UnwindRecord) (s : State) : s.changeMode cause m r = { s with
    modes := { s.modes with mode := m, steering := steeringOutput m, latest := ⟨cause, s.now, s.modes.mode, m⟩ }
    reports := s.reports ++ sixReports m (gateReport m)
    notices := s.notices ++ [.modeChanged s.modes.mode m cause s.now r] } := rfl

/-- Settles O52. -/
theorem modeRequestsChangeTheMode : Obligations.ModeRequestsChangeTheMode := by
  intro s s0 h
  refine ⟨fun hs => ?_, fun hs => ?_, fun hs => ⟨fun hm => ?_, fun hm => ?_, fun r e hm hr he => ?_⟩,
    fun hs => ⟨fun hm => ?_, fun hm => ?_, fun hm => ?_⟩⟩
  · split
    · next hm => exact answers_of_atOnce rfl hs (if_pos hm)
    · next hm =>
      rw [Classical.not_not] at hm
      split
      · next hv => exact answers_of_atOnce rfl hs (by simp [hm, hv, refuse])
      · next hv =>
        rw [Bool.not_eq_false] at hv
        split
        · next hl => exact answers_of_atOnce rfl hs (by simp [hm, hv, ModeController.stormBlocks, hl, refuse])
        · next hl =>
          have hl : s0.modes.stormBlocks = false := by simpa [ModeController.stormBlocks] using hl
          exact answers_of_atOnce rfl hs (by simp [hm, hv, hl, accept, State.changeMode_eq, steeringOutput, gateReport])
  · split
    · next hm => exact answers_of_atOnce rfl hs (if_pos hm)
    · next hm =>
      rw [Classical.not_not] at hm
      split
      · next hv => exact answers_of_atOnce rfl hs (by simp [hm, hv, refuse])
      · next hv =>
        rw [Bool.not_eq_false] at hv
        exact answers_of_atOnce rfl hs (by simp [hm, hv, accept, State.changeMode_eq, steeringOutput, gateReport])
  · exact answers_of_atOnce rfl hs (by simp [State.disable, hm, accept])
  · rcases hm with hm | hm <;>
      exact answers_of_atOnce rfl hs (by simp [State.disable, hm, accept, State.changeMode_eq, steeringOutput, gateReport])
  · subst he
    exact answers_of_atOnce rfl hs (by
      simp [State.disable, hm, hr, accept, State.endUnwind, State.changeMode_eq, steeringOutput, gateReport, State.onModes,
        breakOffUnwind, cancelRest, State.now])
  · rcases hm with hm | hm <;> exact answers_of_atOnce rfl hs (by simp [hm, refuse])
  · exact answers_of_atOnce rfl hs (by simp [hm, accept])
  · exact answers_of_atOnce rfl hs (by
      simp [hm, accept, State.beginUnwind, State.changeMode_eq, steeringOutput, gateReport, State.onModes, newUnwind, State.now])

/-! ### The image -/

/-- The end of a save that outlived its request, and of one that did not (R188, R177). -/
theorem exec_saveEnd {i : Image} {o : SaveOutcome} (hp : s.powered = true) (hi : s.image.save = some i) :
    exec (.saveEnd o) s = .next (((s.onImage (ImageLoader.endSave i o s.now)).report
      (.swapConditionReport (.saveInProgress false))).lateAnswer unitImage (saveAnswer i s.now o).1 (saveAnswer i s.now o).2) := by
  simp only [exec, execSaveEnd, State.event_powered hp, State.saveEnded, hi]

/-- Settles O58. -/
theorem saveWritesTheContent : Obligations.SaveWritesTheContent := by
  refine ⟨fun s s0 h hs => ⟨fun hi => ?_, fun hi => ?_⟩, fun s i o hp hi => ?_⟩
  · refine answers_of_work rfl hs ?_
    exact if_pos (Option.isSome_iff_ne_none.mpr hi)
  · refine (State.handed_of_handsOver _ hs).trans ?_
    simp [hi, State.startSave, State.onImage, State.onDispatcher, State.imageContent, TableStore.activeBank]
  · refine ⟨{ s with
        image := s.image.endSave i o s.now, dispatcher := { s.dispatcher with imageLate := none }
        reports := s.reports ++ [.swapConditionReport (.saveInProgress false)] },
      (saveAnswer i s.now o).1, (saveAnswer i s.now o).2, fun h hl => ?_, fun hl => ?_, rfl, ?_, ?_, ?_⟩
    · rw [exec_saveEnd hp hi]
      simp [State.lateAnswer, unitImage, unitPlanner, hl, State.onImage, State.report, State.onDispatcher]
    · rw [exec_saveEnd hp hi]
      simp [State.lateAnswer, unitImage, unitPlanner, hl, State.onImage, State.report]
      rw [← hl]
    · rintro rfl
      refine ⟨rfl, ?_, ?_⟩
      · cases hv : i.valid <;> simp [saveAnswer, encFlag, hv, u8]
      · simp only [ImageLoader.endSave, writtenBlock_eq]
    · rintro rfl
      exact ⟨rfl, rfl, rfl⟩
    · rintro rfl
      exact ⟨rfl, rfl, _, rfl, rfl, rfl, mismatched_ne _ _⟩

/-! ### Answers -/

/-- Settles O4. -/
theorem answerIsPlacedOrHeld : Obligations.AnswerIsPlacedOrHeld := by
  rintro s v h u st result rfl
  have hplaced : s.line.replies.length < 8 → s.answer h u st result =
      (s.enqueueReply ⟨h, replyBody h u st result, false, none⟩).arbitrateS := fun hlt => if_pos hlt
  refine ⟨fun hlt hbusy => ?_, fun hlt => ?_, fun hge => if_neg (Nat.not_lt.mpr hge), onlyEgress_placeReply _ s⟩
  · rw [hplaced hlt]
    exact if_pos hbusy
  · rw [hplaced hlt]
    exact portActs_arbitrate .sPort _

/-- The link's type value and tagging switch stay at the egress side, and with no reply held its node address (R182, R25). -/
def linkKept (s t : State) : Prop :=
  t.line.typeValue = s.line.typeValue ∧ t.line.tagging = s.line.tagging ∧
    (s.dispatcher.held = [] → t.line.node = s.line.node ∧ t.dispatcher.held = [])

theorem linkKept.rfl {s : State} : linkKept s s := ⟨Eq.refl _, Eq.refl _, fun h => ⟨Eq.refl _, h⟩⟩

theorem linkKept.trans {s t u : State} (h1 : linkKept s t) (h2 : linkKept t u) : linkKept s u := by
  obtain ⟨htype1, htag1, hnode1⟩ := h1
  obtain ⟨htype2, htag2, hnode2⟩ := h2
  refine ⟨htype2.trans htype1, htag2.trans htag1, fun h => ?_⟩
  obtain ⟨hn1, hh1⟩ := hnode1 h
  obtain ⟨hn2, hh2⟩ := hnode2 hh1
  exact ⟨hn2.trans hn1, hh2⟩

theorem linkKept_sendForward (p : Port) (f : Frame) (fs : List Frame) (s : State) : linkKept s (s.sendForward p f fs) := by
  obtain ⟨-, -, -, -, -, hline⟩ := forwardLeaves_sendForward p f fs s
  rw [hline]
  exact .rfl

theorem linkKept_signalReady (s : State) : linkKept s s.signalReady := by
  unfold State.signalReady
  split
  · generalize s.dispatcher.pendingNotices = ns
    induction ns with
    | nil => exact .rfl
    | cons n rest ih =>
      unfold State.moveFirstNotice
      dsimp only
      split
      · exact ih
      · exact .rfl
  · exact .rfl

theorem linkKept_placeHeld (s : State) : linkKept s s.placeHeld := by
  unfold State.placeHeld
  split
  · exact .rfl
  · next r rest hheld =>
    split
    · exact ⟨rfl, rfl, fun hnone => by simp [hnone] at hheld⟩
    · exact .rfl

theorem linkKept_sendReply (e : QueuedReply) (es : List QueuedReply) (s : State) : linkKept s (s.sendReply e es) :=
  linkKept.trans (t := s.onLine fun l => { l with
    replies := es
    sPort := { l.sPort with transmission := some ⟨e.frame, e.restartReply⟩, ownLast := true } }) .rfl
    ((linkKept_placeHeld _).trans (linkKept_signalReady _))

theorem linkKept_arbitrateS (s : State) : linkKept s s.arbitrateS := by
  unfold State.arbitrateS
  dsimp only
  split
  · exact .rfl
  split
  · exact .rfl
  split
  · exact .rfl
  split
  · exact linkKept_sendReply _ _ _
  split
  · exact .rfl
  · exact linkKept_sendForward _ _ _ _
  · exact linkKept_sendReply _ _ _
  · split
    · exact linkKept_sendForward _ _ _ _
    · exact linkKept_sendReply _ _ _

theorem linkRangesOk_iff {x : SetLinkArgs} : linkRangesOk x = true ↔
    1 ≤ x.node ∧ x.node ≤ 65534 ∧ 0x0600 ≤ x.typeValue ∧ x.typeValue ≤ 0xFFFF ∧ x.typeValue ≠ 0x8808 := by
  simp [linkRangesOk, within_iff, and_assoc]

theorem held_of_handsOver (hs : s.handsOver c h u s0) : s0.dispatcher.held = [] := by
  obtain ⟨-, hready, rfl⟩ := State.takeRequest_spec hs.1
  simp only [Dispatcher.ready, Bool.and_eq_true, List.isEmpty_iff] at hready
  exact hready.1

/-- Settles O56. -/
theorem setLinkTakesEffectWithItsReply : Obligations.SetLinkTakesEffectWithItsReply := by
  intro s s0 h x hs
  have hrefused : ∀ st, s0.setLinkRefused x = some st → answers (.setLink h (some x)) s h 8 st [] s0 := by
    intro st hst
    refine answers_of_work rfl hs ?_
    simp [hst, unitLink]
  split
  · next hr => exact hrefused _ (by simp [State.setLinkRefused, mt linkRangesOk_iff.mp hr])
  · next hr =>
    have hr := linkRangesOk_iff.mpr (Classical.not_not.mp hr)
    split
    · next hm => exact hrefused _ (by simp [State.setLinkRefused, hr, hm])
    · next hm =>
      have hnone : s0.setLinkRefused x = none := by simp [State.setLinkRefused, hr, if_neg hm]
      have hplaced : s0.line.replies.length < 8 → s0.setLink h x = (State.enqueueReply
          ⟨h, replyBody h unitLink .ok [], false, some x.node⟩
          (s0.onLine fun l => { l with typeValue := x.typeValue, tagging := x.tagging })).arbitrateS := fun hlt => if_pos hlt
      have hheld : 8 ≤ s0.line.replies.length → s0.setLink h x =
          (s0.onLine fun l => { l with typeValue := x.typeValue, tagging := x.tagging }).onDispatcher fun d =>
            { d with held := d.held ++ [⟨h, replyBody h unitLink .ok [], false, some x.node⟩] } :=
        fun hge => if_neg (Nat.not_lt.mpr hge)
      have hempty := held_of_handsOver hs
      have hlink : (s0.setLink h x).line.typeValue = x.typeValue ∧ (s0.setLink h x).line.tagging = x.tagging ∧
          (s0.line.replies.length < 8 → (s0.setLink h x).line.node = x.node) := by
        by_cases hlt : s0.line.replies.length < 8
        · obtain ⟨htype, htag, hnode⟩ := linkKept_arbitrateS (State.enqueueReply
            ⟨h, replyBody h unitLink .ok [], false, some x.node⟩
            (s0.onLine fun l => { l with typeValue := x.typeValue, tagging := x.tagging }))
          rw [hplaced hlt]
          exact ⟨htype, htag, fun _ => (hnode hempty).1⟩
        · rw [hheld (Nat.not_lt.mp hlt)]
          exact ⟨rfl, rfl, fun h => absurd h hlt⟩
      obtain ⟨htype, htag, hnode⟩ := hlink
      refine ⟨s0.setLink h x, ?_, htype, htag, ?_, hnode, hheld, ?_⟩
      · refine (State.handed_of_handsOver _ hs).trans ?_
        simp [hnone]
      · exact (onlyEgress_onLine _ s0).trans (onlyEgress_placeReply _ _)
      · rintro v rfl hlt
        rw [hplaced hlt]
        exact ⟨portActs_arbitrate .sPort _, fun hbusy => if_pos hbusy⟩

end Sys2Proof.Machine
end

/-! PROOFS. Park frames: what is built is read back (O9). -/

section
namespace Sys2Proof.Machine

variable {t : Telegram} {rest : List Byte}

/-! ### Fields -/

theorem be16_value {n : Nat} (h : n < 65536) : (BitVec.ofNat 8 (n / 256)).toNat * 256 + (BitVec.ofNat 8 n).toNat = n := by
  simp only [BitVec.toNat_ofNat]
  omega

@[simp] theorem be16_length (n : Nat) : (be16 n).length = 2 := rfl

@[simp] theorem u48_length (a : Station) : (u48 a).length = 6 := rfl

@[simp] theorem fcsBytes_length (bs : List Byte) : (fcsBytes bs).length = 4 := rfl

theorem telegramBytes_length (t : Telegram) : (telegramBytes t).length = 9 + (t.tag.getD []).length + t.body.length := by
  simp [telegramBytes, u8]
  omega

section
variable (t rest)

theorem telegramBytes_flags : (telegramBytes t ++ rest).getD 5 0#8 = t.flags := rfl

theorem telegramBytes_sequence : (telegramBytes t ++ rest).getD 6 0#8 = t.sequence := rfl

theorem telegramBytes_tail : (telegramBytes t ++ rest).drop 9 = t.tag.getD [] ++ (t.body ++ rest) := by
  simp only [telegramBytes, List.append_assoc]
  rfl

end

theorem telegramBytes_dest (h : t.dest < 65536) : fieldAt (telegramBytes t ++ rest) 0 = t.dest := be16_value h

theorem telegramBytes_source (h : t.source < 65536) : fieldAt (telegramBytes t ++ rest) 2 = t.source := be16_value h

theorem telegramBytes_kind (h : t.kind < 256) : byteAt (telegramBytes t ++ rest) 4 = t.kind := by
  change (BitVec.ofNat 8 t.kind).toNat = t.kind
  rw [BitVec.toNat_ofNat]
  omega

theorem telegramBytes_bodyLength (h : t.body.length < 65536) : fieldAt (telegramBytes t ++ rest) 7 = t.body.length := be16_value h

/-! ### The frame -/

/-- A telegram's frame before its FCS: the Ethernet header, the telegram, its check, and the fill to 60 bytes (R37). -/
def paddedTelegram (d s : Station) (ty : Nat) (t : Telegram) : List Byte :=
  let front := u48 d ++ u48 s ++ be16 ty ++ telegramBytes t ++ be16 (telegramCheck (telegramBytes t)).toNat
  front ++ List.replicate (60 - front.length) 0#8

theorem buildFrame_eq (d s : Station) (ty : Nat) (t : Telegram) :
    buildFrame d s ty t = paddedTelegram d s ty t ++ fcsBytes (paddedTelegram d s ty t) := rfl

theorem frameBody_append_fcs (x y : List Byte) : frameBody (x ++ fcsBytes y) = x := by
  simp [frameBody]

theorem paddedTelegram_length (d s : Station) (ty : Nat) (t : Telegram) :
    (paddedTelegram d s ty t).length = max 60 (16 + (telegramBytes t).length) := by
  simp [paddedTelegram]
  omega

theorem paddedTelegram_drop (d s : Station) (ty : Nat) (t : Telegram) : ∃ fill, (paddedTelegram d s ty t).drop 14 =
    telegramBytes t ++ (be16 (telegramCheck (telegramBytes t)).toNat ++ fill) := by
  refine ⟨List.replicate (60 - (u48 d ++ u48 s ++ be16 ty ++ telegramBytes t ++
    be16 (telegramCheck (telegramBytes t)).toNat).length) 0#8, ?_⟩
  simp only [paddedTelegram, List.append_assoc]
  rfl

theorem frameIsGood_buildFrame {d s : Station} {ty : Nat} (h : (telegramBytes t).length ≤ 1498) :
    frameIsGood (buildFrame d s ty t) = true := by
  have hlen := paddedTelegram_length d s ty t
  have htail : (buildFrame d s ty t).drop ((buildFrame d s ty t).length - 4) = fcsBytes (frameBody (buildFrame d s ty t)) := by
    rw [buildFrame_eq, frameBody_append_fcs]
    simp
  have hframe : (buildFrame d s ty t).length = max 60 (16 + (telegramBytes t).length) + 4 := by
    rw [buildFrame_eq, List.length_append, hlen, fcsBytes_length]
  simp only [frameIsGood, htail, Bool.and_eq_true, decide_eq_true_eq, beq_self_eq_true, and_true]
  omega

/-- The telegram before its check is read back, whatever follows the check (R22). -/
theorem parseTelegram_eq {f : Frame} {fill : List Byte}
    (hf : (frameBody f).drop 14 = telegramBytes t ++ (be16 (telegramCheck (telegramBytes t)).toNat ++ fill))
    (hd : t.dest < 65536) (hs : t.source < 65536) (hk : t.kind < 256) (hb : t.body.length < 65536) {tag : Nat}
    (htag : (t.tag.getD []).length = tag) (hflags : tag = if isTagged t.flags then 8 else 0)
    (hread : t.tag = if isTagged t.flags then some (t.tag.getD []) else none) : parseTelegram f = some t := by
  have hlen : (telegramBytes t).length = 9 + tag + t.body.length := by rw [telegramBytes_length, htag]
  have htake : ∀ x, (telegramBytes t ++ x).take (9 + tag + t.body.length) = telegramBytes t := fun x =>
    List.take_left' hlen
  have hdrop : ∀ x, (telegramBytes t ++ x).drop (9 + tag + t.body.length) = x := fun x => List.drop_left' hlen
  have hbody : ∀ x, ((telegramBytes t ++ x).drop (9 + tag)).take t.body.length = t.body := fun x => by
    rw [← List.drop_drop, telegramBytes_tail, List.drop_left' htag, List.take_left]
  unfold parseTelegram
  simp only [hf, telegramBytes_flags, telegramBytes_sequence, telegramBytes_dest hd, telegramBytes_source hs,
    telegramBytes_kind hk, telegramBytes_bodyLength hb, ← hflags, htake, hdrop, hbody, telegramBytes_tail]
  have hcheck : (be16 (telegramCheck (telegramBytes t)).toNat).length = 2 := rfl
  rw [if_neg (by rw [List.length_append, List.length_append, hlen, hcheck]; omega),
    if_neg (fun h => h (List.take_left' hcheck).symm)]
  congr
  refine Eq.trans ?_ hread.symm
  split
  · next ht =>
    rw [if_pos ht] at hflags
    rw [List.take_left' (htag.trans hflags)]
  · rfl

/-- Settles O9. -/
theorem builtTelegramIsReadBack : Obligations.BuiltTelegramIsReadBack := by
  intro d src ty t hd hs hk hb htag
  have hshape : (t.tag.getD []).length = (if isTagged t.flags then 8 else 0) ∧
      t.tag = if isTagged t.flags then some (t.tag.getD []) else none := by
    split at htag
    · next ht =>
      obtain ⟨g, hg, hlen⟩ := htag
      simp [ht, hg, hlen]
    · next ht => simp [ht, htag]
  obtain ⟨hlen, hread⟩ := hshape
  obtain ⟨fill, hdrop⟩ := paddedTelegram_drop d src ty t
  refine ⟨parseTelegram_eq (fill := fill) ?_ hd hs hk (by omega) hlen rfl hread, frameIsGood_buildFrame ?_⟩
  · rw [buildFrame_eq, frameBody_append_fcs, hdrop]
  · rw [telegramBytes_length, hlen]
    split <;> omega

end Sys2Proof.Machine
end

/-! PROOFS. The Line Path's receptions and port events: O10, O11, O12, O14; notices (O55) and RESTART (O15). -/

section
namespace Sys2Proof.Machine

variable {s t : State} {p : Port} {f : Frame} {m : Telegram}

/-! ### A reception -/

theorem exec_frameReception (hp : s.powered = true) (hg : frameIsGood f = true) :
    exec (.frameReception p f) s = .next (s.receiveGood p f) := by
  simp only [exec, execFrameReception, State.event_powered hp, hg, if_true]

/-- A park telegram of good check is classified by its kind (R22-R24). -/
theorem receiveGood_telegram (hc : fieldAt f 12 ≠ 0x8808) (hty : fieldAt f 12 = s.line.typeValue)
    (hm : parseTelegram f = some m) : s.receiveGood p f = s.classify p f m := by
  simp only [State.receiveGood, if_neg hc, if_pos hty, hm]

theorem receiveGood_otherType (hc : fieldAt f 12 ≠ 0x8808) (hty : fieldAt f 12 ≠ s.line.typeValue) :
    s.receiveGood p f = s.forwardFrame p f := by
  simp only [State.receiveGood, if_neg hc, if_neg hty]

theorem receiveGood_badTelegram (hc : fieldAt f 12 ≠ 0x8808) (hm : parseTelegram f = none) :
    s.receiveGood p f = s.forwardFrame p f := by
  simp only [State.receiveGood, if_neg hc, hm, ite_self]

theorem isBias_iff : m.isBias = true ↔ m.kind = 0x02 ∧ m.body.length = 3 ∧ (byteAt m.body 2 = 0 ∨ byteAt m.body 2 = 1) := by
  simp only [Telegram.isBias, kindBias, Bool.and_eq_true, beq_iff_eq, decide_eq_true_eq, and_assoc]
  omega

/-- A telegram the part has no use for is forwarded (R23, R24). -/
theorem classify_unused (hreq : ¬ (m.kind = 0x10 ∧ m.dest = s.line.node))
    (hbias : p = .sPort → ¬ (m.kind = 0x02 ∧ m.body.length = 3 ∧ (byteAt m.body 2 = 0 ∨ byteAt m.body 2 = 1)))
    (hsample : p = .fPort → ¬ (m.kind = 0x01 ∧ m.body.length = 11 ∧ s.fleet.turbineAt m.source ≠ none)) :
    s.classify p f m = s.forwardFrame p f := by
  have hreq : ¬ (m.kind = kindMreq ∧ m.dest = s.line.node) := hreq
  cases p with
  | sPort => rw [State.classify, State.classifyS, if_neg hreq, if_neg (mt isBias_iff.mp (hbias rfl))]
  | fPort =>
    rw [State.classify, State.classifyF, if_neg hreq]
    split
    · next hs =>
      split
      · next i hi => exact absurd ⟨hs.1, hs.2, by simp [hi]⟩ (hsample rfl)
      · rfl
    · rfl

theorem forwardFull_iff {l : LinePath} : l.forwardFull p = true ↔ 48 ≤ (l.forward p).length := by
  exact decide_eq_true_iff

/-- What a joined frame leaves while the other port's transmitter is busy (R27, R33). -/
theorem joinForward_busy (hb : (s.line.port (otherPort p)).transmission.isSome = true) :
    forwardJoins p f s (s.joinForward p f) := by
  obtain ⟨v, hv, hacts, -⟩ := forwardJoins_joinForward p f s
  obtain ⟨-, -, -, -, -, hport, -⟩ := hv _ _ rfl Iff.rfl
  rw [hacts (by rw [hport]; exact Option.isSome_iff_ne_none.mp hb)]
  exact hv

/-- Settles O10. -/
theorem foreignFramesAreForwarded : Obligations.ForeignFramesAreForwarded := by
  intro s p f hp
  refine ⟨fun hg => ?_, fun hg hc ho => ?_, fun hg hc hforeign => ?_⟩
  · simp only [exec, execFrameReception, State.event_powered hp, hg, Bool.false_eq_true, if_false]
  · rw [exec_frameReception hp hg, State.receiveGood, if_pos hc, if_neg ho]
  · have hforward : exec (.frameReception p f) s = .next (s.forwardFrame p f) := by
      rw [exec_frameReception hp hg]
      rcases hforeign with hty | hnone | ⟨m, hm, hreq, hbias, hsample⟩
      · rw [receiveGood_otherType hc hty]
      · rw [receiveGood_badTelegram hc hnone]
      · by_cases hty : fieldAt f 12 = s.line.typeValue
        · rw [receiveGood_telegram hc hty hm, classify_unused hreq hbias hsample]
        · rw [receiveGood_otherType hc hty]
    have hjoins : (s.line.forward p).length < 48 → s.forwardFrame p f = s.joinForward p f := fun hlt =>
      if_neg (mt forwardFull_iff.mp (Nat.not_le.mpr hlt))
    refine ⟨fun hfull => ?_, fun hlt => ?_, fun hlt hbusy => ?_⟩
    · rw [hforward, State.forwardFrame, if_pos (forwardFull_iff.mpr hfull)]
    · obtain ⟨v, hv, hacts⟩ := forwardJoins_joinForward p f s
      exact ⟨v, _, hforward.trans (congrArg _ (hjoins hlt)), hv, hacts⟩
    · obtain ⟨hf, hasserted, hidle, hbusyp, hquiet, hport, hother, hotherA, hframe⟩ := joinForward_busy (f := f) hbusy _ _ rfl Iff.rfl
      refine ⟨_, hforward.trans (congrArg _ (hjoins hlt)), hf, hother, ?_⟩
      generalize s.joinForward p f = t at *
      refine ⟨congrArg (·.line.injections) hframe, congrArg (·.line.inbox) hframe, congrArg (·.line.replies) hframe, ?_,
        fun hown => ⟨hasserted, ?_⟩⟩
      · rw [hframe]
      · split
        · next ha => rw [hbusyp ha (Option.isSome_iff_ne_none.mp hown)]
        · next ha => rw [hquiet ha]

/-- Settles O11. -/
theorem requestJoinsInbox : Obligations.RequestJoinsInbox := by
  intro s f m hp hg hc hty hm hk hd
  have hreq : m.kind = kindMreq ∧ m.dest = s.line.node := ⟨hk, hd⟩
  have hexec : ∀ p, exec (.frameReception p f) s = .next (s.classify p f m) := fun p => by
    rw [exec_frameReception hp hg, receiveGood_telegram hc hty hm]
  refine ⟨fun hlt => ?_, fun hge => ?_, ?_⟩
  · rw [hexec, State.classify, State.classifyS, if_pos hreq, State.offerRequest, State.onLine, if_pos (show _ < Config.inboxCapacity from hlt)]
  · rw [hexec, State.classify, State.classifyS, if_pos hreq, State.offerRequest, State.onLine,
      if_neg (show ¬ _ < Config.inboxCapacity from Nat.not_lt.mpr hge)]
  · rw [hexec, State.classify, State.classifyF, if_pos hreq]

/-! ### Port events -/

theorem pauseEnds_endPause (p : Port) (s : State) : pauseEnds p s (s.endPause p) := by
  refine ⟨_, portActs_arbitrate p _, ?_⟩
  cases p with
  | sPort => exact ⟨_, readySignalled_signalReady _, portActs_arbitrate .sPort _⟩
  | fPort => rfl

/-- Settles O14. -/
theorem portEventsFreeTheTransmitter : Obligations.PortEventsFreeTheTransmitter := by
  refine ⟨fun s p x hp hx hr => ?_, fun s p hp => ⟨fun hnone => ?_, fun hnone => ?_, fun hpaused => ?_⟩, fun s p f hp hg hc ho => ?_⟩
  · refine ⟨_, ?_, portActs_arbitrate p _⟩
    simp only [exec, execTransmissionEnd, State.event_powered hp, hx, State.transmissionEnded, hr, Bool.false_eq_true, if_false,
      State.onLine]
  · simp only [exec, execTransmissionEnd, State.event_powered hp, hnone]
  · simp only [exec, execPauseExpiry, State.event_powered hp, hnone, Option.isSome_none, Bool.false_eq_true, if_false]
  · refine ⟨_, ?_, pauseEnds_endPause p s⟩
    simp only [exec, execPauseExpiry, State.event_powered hp, if_pos (Option.isSome_iff_ne_none.mpr hpaused)]
  · have hexec : exec (.frameReception p f) s = .next (s.pauseReceived p (fieldAt f 16)) := by
      rw [exec_frameReception hp hg, State.receiveGood, if_pos hc, if_pos ho]
    rw [hexec]
    refine ⟨fun hq => ?_, fun hq hnone => ?_, fun hq hpaused => ⟨_, ?_, pauseEnds_endPause p s⟩⟩
    · rw [State.pauseReceived, if_pos hq, State.onLine]
    · simp [State.pauseReceived, hq, hnone]
    · simp [State.pauseReceived, hq, Option.isSome_iff_ne_none.mpr hpaused]

/-! ### Notices -/

theorem exec_noticeEntry (hp : s.powered = true) (n : Notice) : exec (.noticeEntry n) s =
    .next ({ s with notices := s.notices.erase n }.enterNotice (composeNotice s.modes.unwindRecord n)) := by
  simp only [exec, execNoticeEntry, State.event_powered hp]

theorem composeNotice_merged (r : Option UnwindRecord) (n : Notice) : (composeNotice r n).merged = false := by
  cases n <;> rfl

/-- Settles O55. -/
theorem noticesWaitByClass : Obligations.NoticesWaitByClass := by
  rintro s n c dest hp hc rfl
  have hmerged : c.merged = false := hc ▸ composeNotice_merged _ n
  rw [exec_noticeEntry hp, ← hc]
  refine ⟨fun hd => ?_, fun hd hclass => ?_, fun hd hclass => ?_⟩
  · exact congrArg _ (if_pos hd)
  · have hany : (s.dispatcher.pendingNotices.any fun x => x.cls == c.cls) = true := by simpa using hclass
    simp only [State.enterNotice, Dispatcher.destination, if_neg hd, hany, if_true, State.onDispatcher, replaceNotice]
  · obtain ⟨x, hx, hacts⟩ := enterNotice_joins (s := { s with notices := s.notices.erase n }) (n := c) hd hclass
    refine ⟨⟨x, _, hx, hacts, rfl⟩, fun hbusy htr => ?_, fun hr hpaused hheld hpend htr => ?_⟩
    · have hsame := hx.1 (hbusy.imp id .inl)
      have hstays := hacts.1 (by rw [hsame]; exact Option.isSome_iff_ne_none.mp htr)
      rw [hstays, hsame]
    · have hmoved := (hx.2 hr hpaused hheld).2 [] c [] _ (by simp [hpend]) (by simp) rfl hd
      have hstays := hacts.1 (by rw [hmoved]; exact Option.isSome_iff_ne_none.mp htr)
      rw [hstays, hmoved, hmerged]
      simp only [Bool.false_eq_true, if_false]
      rw [← hpend]

end Sys2Proof.Machine
end

/-! PROOFS. BIAS telegrams and samples at the Line Path (O12, O13); RESTART (O15). -/

section
namespace Sys2Proof.Machine

variable {s t : State} {p : Port} {f : Frame} {m : Telegram}

/-! ### BIAS telegrams -/

theorem sending_iff {x : Mode} : sending x = true ↔ x = .live ∨ x = .unwind := by
  cases x <;> simp [sending]

theorem not_sending_iff {x : Mode} : sending x = false ↔ x = .off ∨ x = .dry := by
  cases x <;> simp [sending]

theorem strip_eq_iff : m.strip = m ↔ m.tag = none ∧ m.flags = withFlags m.flags false false := by
  cases m
  simp only [Telegram.strip, Telegram.mk.injEq, true_and, and_true]
  exact ⟨fun ⟨hflags, htag⟩ => ⟨htag.symm, hflags.symm⟩, fun ⟨htag, hflags⟩ => ⟨hflags.symm, htag.symm⟩⟩

theorem biasForward_none : biasForward f m none = if m.tag = none ∧ m.flags = withFlags m.flags false false then f
    else rebuildFrame f { m with flags := withFlags m.flags false false, tag := none } := by
  simp only [biasForward, strip_eq_iff]
  rfl

/-- A BIAS telegram handled changes Bias Upkeep alone (R133, R139). -/
theorem State.handBias_eq (i : Nat) (v : Int) (b : Bool) (s : State) : s.handBias i v b = { s with upkeep :=
    { controllerBias := if b then s.upkeep.controllerBias.set 0 i v else s.upkeep.controllerBias
      refresh := if sending s.upkeep.modeIn then s.upkeep.refresh.set none i (some (s.clock + s.planner.params.refresh))
        else s.upkeep.refresh
      waitList := if sending s.upkeep.modeIn then s.upkeep.waitList.erase i else s.upkeep.waitList
      modeIn := s.upkeep.modeIn } } := by
  unfold State.handBias
  cases b <;> cases hm : sending s.upkeep.modeIn <;>
    simp [hm, State.onUpkeep, Upkeep.record, State.restartRefresh, Upkeep.setRefresh, State.timer]

/-- Settles O12. -/
theorem controllerBiasIsRecordedAndRewritten : Obligations.ControllerBiasIsRecordedAndRewritten := by
  intro s f plain m hp hg hc hty hm hk hlen hb hplain
  have hplain : plain = biasForward f m none := hplain.trans biasForward_none.symm
  have hnot : ¬ (m.kind = kindMreq ∧ m.dest = s.line.node) := by simp [hk, kindMreq]
  have hexec : exec (.frameReception .sPort f) s = .next (s.receiveBias f m) := by
    rw [exec_frameReception hp hg, receiveGood_telegram hc hty hm, State.classify, State.classifyS, if_neg hnot,
      if_pos (isBias_iff.mpr ⟨hk, hlen, hb⟩)]
  have hroom : s.line.s2f.length < 48 → ¬ s.line.forwardFull .sPort = true := fun hlt =>
    mt forwardFull_iff.mp (Nat.not_le.mpr hlt)
  rw [hexec]
  refine ⟨fun hfull => ?_, fun hlt hnone => ?_, fun i hlt hi => ?_⟩
  · rw [State.receiveBias, if_pos ((forwardFull_iff (p := .sPort)).mpr hfull)]
  · simp only [State.receiveBias, if_neg (hroom hlt), hnone, hplain]
  · refine ⟨s.handBias i (signed16 (fieldAt m.body 0)) (byteAt m.body 2 == 0),
      biasForward f m ((s.handBias i (signed16 (fieldAt m.body 0)) (byteAt m.body 2 == 0)).returnedBias i), ?_, ?_⟩
    · simp only [State.receiveBias, if_neg (hroom hlt), hi]
    rw [State.handBias_eq]
    refine ⟨rfl, rfl, ?_, fun j hj => ?_, fun hoff => ?_, fun hon => ?_⟩
    · simp only [beq_iff_eq]
      split <;> simp
    · simp only [beq_iff_eq]
      split <;> simp [hj]
    · have hoff := not_sending_iff.mpr hoff
      simp [hoff, State.returnedBias, hplain]
    · have hon := sending_iff.mpr hon
      refine ⟨by simp [hon], fun j hj => by simp [hon, hj], by simp [hon], _, rfl, ?_⟩
      simp only [State.returnedBias, hon, if_true]
      rfl

/-! ### RESTART -/

/-- The state of a line set afresh (R172). -/
theorem lineState_afresh_eq (l : LineState) : LineState.afresh l.config l.level = { l with
    isActive := l.config.enabled && decide (l.level = (match l.config.edge with | .rising => .high | .falling => .low)) } := by
  cases l with
  | mk c v a => cases c with
    | mk e g => cases g <;> cases v <;> rfl

theorem Gate.restart_eq (n : Nat) (g : Gate) : g.restart n = { g with
    installed := none
    last := match g.installed with | some p => some { p with state := .aborted } | none => g.last
    steered := none
    ring := g.ring.map (fun r => if r.state.finished = true then r else { r with
      state := .cancelled, cause := some .restart, finishTime := some n, segmentTarget := none, grantTime := none })
    normalQueue := [], urgentQueue := [], flights := [], components := (g.restart n).components
    requestHold := false, lineHold := false, modeIn := .off, scanDue := false } := by
  have hlast : (g.restart n).last = match g.installed with | some p => some { p with state := .aborted } | none => g.last := by
    cases hi : g.installed <;> simp [Gate.restart, hi]
  have hring : (g.restart n).ring = g.ring.map (fun r => if r.state.finished = true then r else { r with
      state := .cancelled, cause := some .restart, finishTime := some n, segmentTarget := none, grantTime := none }) := by
    refine List.map_congr_left fun r _ => ?_
    cases hf : r.state.finished <;> simp [hf, MoveRecord.finish]
  rw [← hlast, ← hring]
  rfl

theorem outlivesRestart_eq : outlivesRestart = fun c => decide (c = .swapConditionReport (.saveInProgress true) ∨
    c = .swapConditionReport (.saveInProgress false)) := by
  funext c
  unfold outlivesRestart
  split
  · next b => cases b <;> rfl
  · next hno =>
    refine (decide_eq_false ?_).symm
    rintro (rfl | rfl)
    · exact hno true rfl
    · exact hno false rfl

/-- Settles O15. -/
theorem restartReturnsWorkingState : Obligations.RestartReturnsWorkingState := by
  refine ⟨fun s s0 h hs => ?_, fun s x act hp hx hr hact => ?_⟩
  · have hegress : onlyEgress (s0.onDispatcher fun d => { d with restartTaken := true }) (s0.takeRestart h) :=
      onlyEgress_placeReply _ _
    refine ⟨s0.takeRestart h, ?_, ?_, ?_, ?_, fun hge => if_neg (Nat.not_lt.mpr hge)⟩
    · exact State.handed_of_handsOver _ hs
    · rw [hegress]
      rfl
    · rw [hegress]
      simp [Dispatcher.ready, State.onDispatcher]
    · rintro v rfl hlt
      have hplaced : s0.takeRestart h = (State.enqueueReply ⟨h, replyBody h unitInfo .ok [], true, none⟩
          (s0.onDispatcher fun d => { d with restartTaken := true })).arbitrateS := if_pos hlt
      rw [hplaced]
      exact ⟨portActs_arbitrate .sPort _, fun hbusy => if_pos hbusy⟩
  · have hafresh : ∀ l : LineState, LineState.afresh l.config l.level = { l with isActive := act l } := fun l => by
      rw [hact l]
      exact lineState_afresh_eq l
    have hexec : exec (.transmissionEnd .sPort) s = .next
        ((s.onLine fun l => l.setPort .sPort { l.port .sPort with transmission := none }).applyRestart.arbitrate .sPort) := by
      simp only [exec, execTransmissionEnd, State.event_powered hp, State.transmissionEnded]
      rw [show (s.line.port .sPort).transmission = some x from hx]
      simp only [hr, if_true]
    refine ⟨_, hexec, hp, rfl, rfl, rfl, rfl, rfl, rfl, rfl, fun i => rfl, rfl, rfl, rfl, fun i => rfl, ?_, rfl, rfl, ?_, rfl, ?_⟩
    · exact Gate.restart_eq s.now s.gate
    · change s.modes.restart s.now = _
      simp only [ModeController.restart, hafresh]
      rfl
    · change s.reportsAfterRestart = _
      have hgrid : (s.modes.restart s.now).gridhold.isActive = act s.modes.gridhold :=
        congrArg LineState.isActive (hafresh s.modes.gridhold)
      rw [State.reportsAfterRestart, hgrid, outlivesRestart_eq]

end Sys2Proof.Machine
end

/-! PROOFS. The intake of a sample (O13). -/

section
namespace Sys2Proof.Machine

variable {s t : State} {f : Frame} {m : Telegram} {i : Nat} {x : Sample}

/-! ### What the Gate does with a sample leaves of the Fleet Table -/

@[simp] theorem State.testCompletion_fleet (s : State) : s.testCompletion.fleet = s.fleet := by
  unfold State.testCompletion
  split
  · rfl
  · split <;> rfl

@[simp] theorem State.recordFinished_fleet (r : MoveRecord) (o : UrgentOutcome) (s : State) :
    (s.recordFinished r o).fleet = s.fleet := by
  unfold State.recordFinished
  split
  · split
    · exact State.testCompletion_fleet s
    · rfl
  · dsimp only
    split <;> rfl

@[simp] theorem State.settle_fleet (f : Flight) (s : State) : (s.settle f).fleet = s.fleet := by
  unfold State.settle
  dsimp only
  split
  · rfl
  · split
    · rw [State.recordFinished_fleet]
      rfl
    · rfl

@[simp] theorem State.abortPlan_fleet (p : Plan) (c : AbortCause) (s : State) : (s.abortPlan p c).fleet = s.fleet := by
  simp only [State.abortPlan, State.endAborted, State.cancelWaiting, State.notify_fleet, State.report_fleet, State.onGate_fleet]

@[simp] theorem State.chargeFailure_fleet (s : State) : s.chargeFailure.fleet = s.fleet := by
  unfold State.chargeFailure
  split
  · rfl
  · dsimp only
    split
    · rw [State.abortPlan_fleet, State.onGate_fleet]
    · rw [State.testCompletion_fleet, State.notify_fleet, State.onGate_fleet]

theorem failureFollows_fleet (f : Flight) (c : FinishCause) (s : State) :
    (let u := (s.onFleet (Fleet.failureReported f.turbine)).notify (.moveFailed f.record f.turbine c f.target)
     match f.fate with
     | .own => u.chargeFailure
     | .urgent =>
       let u := u.report (.urgentFinishReport .failed)
       if u.gate.urgentUnfinished then u else u.report .unwindEnd
     | .superseded | .aborted => u).fleet = s.fleet.failureReported f.turbine := by
  cases f.fate with
  | own => exact State.chargeFailure_fleet _
  | urgent =>
    dsimp only
    split <;> rfl
  | superseded => rfl
  | aborted => rfl

@[simp] theorem State.fail_fleet (f : Flight) (c : FinishCause) (s : State) :
    (s.fail f c).fleet = s.fleet.failureReported f.turbine := by
  unfold State.fail
  refine (failureFollows_fleet f c _).trans ?_
  split <;> rfl

theorem Gate.flightOf_turbine {g : Gate} {k : Flight} (h : g.flightOf i = some k) : k.turbine = i := by
  simpa using List.find?_some h

/-- A FAULT or LOCKED sample of a turbine in flight is a failure reported (R123, R12); no other sample touches the Fleet Table. -/
theorem State.segmentSampled_fleet (i : Nat) (y : YawState) (a : Int) (s : State) : (s.segmentSampled i y a).fleet =
    if sending s.gate.modeIn = true ∧ s.gate.flightOf i ≠ none ∧ (y = .fault ∨ y = .locked) then s.fleet.failureReported i
    else s.fleet := by
  unfold State.segmentSampled
  split
  · next hm =>
    split
    · next hf => simp [hf]
    · next k hk =>
      have hturbine := Gate.flightOf_turbine hk
      cases y with
      | fault => simp [hm, hk, hturbine]
      | locked => simp [hm, hk, hturbine]
      | running => simp
      | idle =>
        dsimp only
        split <;> simp
  · next hm => simp [hm]

/-! ### The fields of a sample -/

/-- The usable yaw fields, as R9 has them. -/
theorem Sample.usableYaw_eq (x : Sample) : x.usableYaw =
    (if x.achieved < -1800 ∨ 1800 < x.achieved then none
      else if x.yawCode = 0 then some .idle else if x.yawCode = 1 then some .running else if x.yawCode = 2 then some .fault
      else if x.yawCode = 3 then some .locked else none : Option YawState).map fun y => (y, x.achieved) := by
  have hin : withinInt (-1800) 1800 x.achieved = !decide (x.achieved < -1800 ∨ 1800 < x.achieved) := by
    rw [Bool.eq_iff_iff]
    simp [withinInt]
  unfold Sample.usableYaw
  rw [hin]
  by_cases hout : x.achieved < -1800 ∨ 1800 < x.achieved
  · rw [if_pos hout, decide_eq_true hout]
    split <;> rfl
  · rw [if_neg hout, decide_eq_false hout]
    match x.yawCode with
    | 0 => rfl
    | 1 => rfl
    | 2 => rfl
    | 3 => rfl
    | n + 4 => rfl

/-- A turbine's record after a used sample (R8-R10). -/
theorem afterSample_eq (d : TurbineDynamic) (now expires : Nat) {y : Option YawState}
    (hy : x.usableYaw = y.map fun z => (z, x.achieved)) : d.afterSample x now expires =
    { availability := if d.availability = .fault ∨ y = some .fault then .fault else .online
      yaw := if y = none then d.yaw else y
      direction := if x.direction ≤ 3599 then some x.direction else d.direction
      speed := if x.speed ≤ 600 then some x.speed else d.speed
      power := some x.power
      achieved := if y = none then d.achieved else some x.achieved
      time := some now
      sequence := some x.sequence
      stale := some expires } := by
  have hdir : x.usableDirection.or d.direction = if x.direction ≤ 3599 then some x.direction else d.direction := by
    unfold Sample.usableDirection
    split <;> rfl
  have hspd : x.usableSpeed.or d.speed = if x.speed ≤ 600 then some x.speed else d.speed := by
    unfold Sample.usableSpeed
    split <;> rfl
  unfold TurbineDynamic.afterSample
  rw [hdir, hspd, hy]
  cases y with
  | none => simp [availabilityAfter]
  | some z => cases z <;> simp [availabilityAfter]

theorem Fleet.setDynamic_eq (i : Nat) (d : TurbineDynamic) (k : Fleet) :
    k.setDynamic i d = { k with dynamics := (k.setDynamic i d).dynamics } := rfl

theorem Monitor.arrival_eq (r p c : Nat) (k : Monitor) :
    Monitor.arrival r p c k = { k with watches := (Monitor.arrival r p c k).watches } := by
  unfold Monitor.arrival
  split <;> rfl

/-! ### What a sample's intake leaves -/

/-- What the intake of a sample can touch: the turbines' records, the estimate, the Gate, the watches, reports and notices. -/
def sampleTouches (s t : State) : Prop :=
  t = { s with
    fleet := { s.fleet with dynamics := t.fleet.dynamics }, wind := t.wind, gate := t.gate
    monitor := { s.monitor with watches := t.monitor.watches }, reports := t.reports, notices := t.notices }

theorem sampleTouches.rfl {s : State} : sampleTouches s s := Eq.refl s

theorem sampleTouches.trans {s t u : State} (h1 : sampleTouches s t) (h2 : sampleTouches t u) : sampleTouches s u := by
  unfold sampleTouches at *
  rw [h2, h1]

theorem sampleTouches_recordSample (i : Nat) (x : Sample) (s : State) : sampleTouches s (s.recordSample i x) := Eq.refl _

theorem sampleTouches_handReference (i : Nat) (x : Sample) (s : State) : sampleTouches s (s.handReference i x) := by
  unfold State.handReference
  split
  · exact Eq.refl _
  · exact .rfl

theorem sampleTouches_handArrival (i : Nat) (x : Sample) (s : State) : sampleTouches s (s.handArrival i x) := by
  unfold State.handArrival
  split
  · next r _ =>
    unfold sampleTouches State.onMonitor
    rw [Monitor.arrival_eq]
  · exact .rfl

theorem sampleTouches_handYaw (i : Nat) (x : Sample) (s : State) : sampleTouches s (s.handYaw i x) := by
  unfold State.handYaw
  split
  · next y a _ =>
    have hfleet : (s.segmentSampled i y a).fleet = { s.fleet with dynamics := (s.segmentSampled i y a).fleet.dynamics } := by
      rw [State.segmentSampled_fleet]
      split <;> rfl
    have hframe := onlyGate_segmentSampled i y a s
    have hwind : (s.segmentSampled i y a).wind = s.wind := by rw [hframe]
    have hmonitor : (s.segmentSampled i y a).monitor = s.monitor := by rw [hframe]
    unfold sampleTouches
    rw [← hfleet, hwind, hmonitor]
    exact hframe
  · exact .rfl

/-- A used sample goes, in this order, to the record, the Estimator, the Monitor and the Gate (R9). -/
theorem State.intake_used (hu : (s.fleet.dynamic i).sequence ≠ some x.sequence) :
    s.intake i x = (((s.recordSample i x).handReference i x).handArrival i x).handYaw i x := by
  unfold State.intake TurbineDynamic.uses
  exact if_pos (bne_iff_ne.mpr hu)

theorem State.intake_repeat (hu : (s.fleet.dynamic i).sequence = some x.sequence) : s.intake i x = s := by
  unfold State.intake TurbineDynamic.uses
  exact if_neg (by simp [hu])

theorem sampleTouches_intake (i : Nat) (x : Sample) (s : State) : sampleTouches s (s.intake i x) := by
  by_cases hu : (s.fleet.dynamic i).sequence = some x.sequence
  · rw [State.intake_repeat hu]
    exact .rfl
  · rw [State.intake_used hu]
    exact ((sampleTouches_recordSample i x s).trans (sampleTouches_handReference i x _)).trans
      ((sampleTouches_handArrival i x _).trans (sampleTouches_handYaw i x _))

/-! ### The handing on within a reception -/

@[simp] theorem State.handReference_fleet (i : Nat) (x : Sample) (s : State) : (s.handReference i x).fleet = s.fleet := by
  unfold State.handReference
  split <;> rfl

@[simp] theorem State.handReference_now (i : Nat) (x : Sample) (s : State) : (s.handReference i x).now = s.now := by
  unfold State.handReference
  split <;> rfl

@[simp] theorem State.handReference_powered (i : Nat) (x : Sample) (s : State) : (s.handReference i x).powered = s.powered := by
  unfold State.handReference
  split <;> rfl

@[simp] theorem State.handReference_gate (i : Nat) (x : Sample) (s : State) : (s.handReference i x).gate = s.gate := by
  unfold State.handReference
  split <;> rfl

@[simp] theorem State.handArrival_fleet (i : Nat) (x : Sample) (s : State) : (s.handArrival i x).fleet = s.fleet := by
  unfold State.handArrival
  split <;> rfl

@[simp] theorem State.handArrival_powered (i : Nat) (x : Sample) (s : State) : (s.handArrival i x).powered = s.powered := by
  unfold State.handArrival
  split <;> rfl

@[simp] theorem State.handArrival_gate (i : Nat) (x : Sample) (s : State) : (s.handArrival i x).gate = s.gate := by
  unfold State.handArrival
  split <;> rfl

theorem exec_referenceSample (hp : s.powered = true) (hr : (s.fleet.static i).reference = true) :
    exec (.referenceSample (s.referenceArrival i x)) s = .next (s.handReference i x) := by
  simp only [exec, execReferenceSample, State.event_powered hp, State.handReference, hr, if_true]

theorem exec_arrivalSample (hp : s.powered = true) {r : Nat} (hr : s.fleet.referenceRow i = some r) :
    exec (.arrivalSample r x.power s.now) s = .next (s.handArrival i x) := by
  simp only [exec, execArrivalSample, State.event_powered hp, State.handArrival, hr]

theorem exec_segmentSample (hp : s.powered = true) {y : YawState} {a : Int} (hy : x.usableYaw = some (y, a)) :
    exec (.segmentSample i y a) s = .next (s.handYaw i x) := by
  simp only [exec, execSegmentSample, State.event_powered hp, State.handYaw, hy]

/-- The records after a sample handed to the Gate: a LOCKED one of a turbine in flight makes it FAULT (R123, R12). -/
theorem State.handYaw_dynamic {y : Option YawState} (hy : x.usableYaw = y.map fun z => (z, x.achieved))
    (hfault : y = some .fault → (s.fleet.dynamic i).availability = .fault) :
    (∀ j, j ≠ i → (s.handYaw i x).fleet.dynamic j = s.fleet.dynamic j) ∧
      (s.handYaw i x).fleet.dynamic i = { s.fleet.dynamic i with
        availability := if y = some .locked ∧ s.gate.flightOf i ≠ none ∧ (s.gate.modeIn = .live ∨ s.gate.modeIn = .unwind) then .fault
          else (s.fleet.dynamic i).availability } := by
  have hkept : (s.handYaw i x).fleet = s.fleet ∨ (s.handYaw i x).fleet = s.fleet.failureReported i := by
    unfold State.handYaw
    split
    · rw [State.segmentSampled_fleet]
      split
      · exact .inr rfl
      · exact .inl rfl
    · exact .inl rfl
  refine ⟨fun j hj => ?_, ?_⟩
  · rcases hkept with hk | hk <;> rw [hk]
    exact Fleet.setDynamic_dynamic_other _ _ hj _
  · cases y with
    | none =>
      have hnone : x.usableYaw = none := hy
      simp [State.handYaw, hnone]
    | some z =>
      have hsome : x.usableYaw = some (z, x.achieved) := hy
      simp only [State.handYaw, hsome, State.segmentSampled_fleet, sending_iff]
      cases z with
      | fault =>
        have hf := hfault rfl
        split
        · simp [Fleet.failureReported, hf]
        · simp
      | locked =>
        split
        · next hl => simp [Fleet.failureReported, hl]
        · next hl =>
          rw [if_neg (fun ⟨_, hflight, hmode⟩ => hl ⟨hmode, hflight, .inr rfl⟩)]
      | idle => simp
      | running => simp

/-! ### The tag -/

theorem moveCode_eq (g : Gate) (i : Nat) : g.moveCode i = if g.flightOf i ≠ none then 3
    else if ∃ r ∈ g.ring, r.turbine = i ∧ r.state = .ready then 2
    else if ∃ r ∈ g.ring, r.turbine = i ∧ r.state = .pending then 1 else 0 := by
  simp [Gate.moveCode, Gate.busy, Option.isSome_iff_ne_none]

theorem planCode_eq (g : Gate) : g.planCode = match g.installed with
    | none => 0
    | some p => if p.state = .running then 1 else if p.state = .held then 2 else if p.state = .draining then 3 else 0 := by
  unfold Gate.planCode
  cases g.installed with
  | none => rfl
  | some p => cases hp : p.state <;> simp [hp]

theorem installedNumber_eq (g : Gate) :
    (g.installed.map (·.number)).getD 0 = match g.installed with | some p => p.number | none => 0 := by
  cases g.installed <;> rfl

/-- The tag as R35 lists it, field by field. -/
theorem steeringTag_eq (s : State) (i : Nat) : s.steeringTag i =
    u16 (match s.gate.installed with | some p => p.number | none => 0) ++
    i16 (clamp (-(s.planner.params.biasLimit : Int)) s.planner.params.biasLimit
      (s.upkeep.controllerBias.get 0 i + s.gate.component i)) ++
    u8 (if s.gate.flightOf i ≠ none then 3
      else if ∃ r ∈ s.gate.ring, r.turbine = i ∧ r.state = .ready then 2
      else if ∃ r ∈ s.gate.ring, r.turbine = i ∧ r.state = .pending then 1 else 0) ++
    u8 (match s.line.modeIn with | .off => 0 | .live => 1 | .dry => 2 | .unwind => 3) ++
    u8 (match (s.fleet.dynamic i).availability with | .unseen => 0 | .online => 1 | .stale => 2 | .fault => 3) ++
    u8 (match s.gate.installed with
      | none => 0
      | some p => if p.state = .running then 1 else if p.state = .held then 2 else if p.state = .draining then 3 else 0) := by
  have hmode : encMode s.line.modeIn = u8 (match s.line.modeIn with | .off => 0 | .live => 1 | .dry => 2 | .unwind => 3) := by
    cases s.line.modeIn <;> rfl
  have havail : encAvailability (s.fleet.dynamic i).availability =
      u8 (match (s.fleet.dynamic i).availability with | .unseen => 0 | .online => 1 | .stale => 2 | .fault => 3) := by
    cases (s.fleet.dynamic i).availability <;> rfl
  rw [State.steeringTag, State.commandedBias, hmode, havail, moveCode_eq, planCode_eq, installedNumber_eq]

/-- Settles O13. -/
theorem sampleUpdatesTheRecord : Obligations.SampleUpdatesTheRecord := by
  rintro s f m i sq dir spd pow yc ach y hp hg hc hty hm hk hlen hi rfl rfl rfl rfl rfl rfl hy
  have hnot : ¬ (m.kind = kindMreq ∧ m.dest = s.line.node) := by simp [hk, kindMreq]
  have hexec : exec (.frameReception .fPort f) s = .next (s.receiveSample i f m) := by
    rw [exec_frameReception hp hg, receiveGood_telegram hc hty hm, State.classify, State.classifyF, if_neg hnot, if_pos ⟨hk, hlen⟩]
    simp only [hi]
  have hyaw : (sampleOf m.body).usableYaw = y.map fun z => (z, (sampleOf m.body).achieved) := by
    rw [Sample.usableYaw_eq, hy]
    rfl
  rw [hexec]
  refine ⟨fun hfull => ?_, fun hlt => ?_⟩
  · rw [State.receiveSample, if_pos ((forwardFull_iff (p := .fPort)).mpr hfull)]
  have hframe := sampleTouches_intake i (sampleOf m.body) s
  refine ⟨s.intake i (sampleOf m.body), (s.intake i (sampleOf m.body)).sampleForward i f m, ?_, hframe,
    fun hrepeat => State.intake_repeat hrepeat, fun hused => ?_, fun htag => ?_, fun htag hmode => ?_⟩
  · rw [State.receiveSample, if_neg (mt (forwardFull_iff (p := .fPort)).mp (Nat.not_le.mpr hlt))]
  · have hd := afterSample_eq (s.fleet.dynamic i) s.now (s.clock + s.wind.params.wStale) hyaw
    have hdyn : (s.recordSample i (sampleOf m.body)).fleet.dynamic i =
        (s.fleet.dynamic i).afterSample (sampleOf m.body) s.now (s.clock + s.wind.params.wStale) :=
      Fleet.setDynamic_dynamic_same ..
    have hrows : ((s.recordSample i (sampleOf m.body)).handReference i (sampleOf m.body)).fleet.referenceRow i =
        s.fleet.referenceRow i := by
      rw [State.handReference_fleet]
      rfl
    obtain ⟨hothers, hown⟩ := State.handYaw_dynamic (i := i)
      (s := ((s.recordSample i (sampleOf m.body)).handReference i (sampleOf m.body)).handArrival i (sampleOf m.body)) hyaw
      (fun hf => by simp [hdyn, hd, hf])
    rw [State.handArrival_fleet, State.handReference_fleet] at hothers hown
    rw [State.handArrival_gate, State.handReference_gate] at hown
    refine ⟨s.recordSample i (sampleOf m.body), (s.recordSample i (sampleOf m.body)).handReference i (sampleOf m.body),
      ((s.recordSample i (sampleOf m.body)).handReference i (sampleOf m.body)).handArrival i (sampleOf m.body), _, rfl, rfl,
      hdyn.trans hd, fun j hj => Fleet.setDynamic_dynamic_other _ _ hj _, fun href => ?_, fun href => ?_, fun r hr => ?_, fun hnone => ?_,
      fun z hz => ?_, fun hz => ?_, fun j hj => ?_, ?_⟩
    · exact exec_referenceSample (x := sampleOf m.body) (s := s.recordSample i (sampleOf m.body)) hp href
    · exact if_neg (Bool.eq_false_iff.mp href)
    · have hr := exec_arrivalSample (x := sampleOf m.body) (s := (s.recordSample i (sampleOf m.body)).handReference i (sampleOf m.body))
        ((State.handReference_powered _ _ _).trans hp) (hrows.trans hr)
      rw [State.handReference_now] at hr
      exact hr
    · unfold State.handArrival
      rw [hrows, hnone]
    · have hsome : (sampleOf m.body).usableYaw = some (z, (sampleOf m.body).achieved) := hyaw.trans (by rw [hz]; rfl)
      rw [State.intake_used hused]
      refine exec_segmentSample ?_ hsome
      rw [State.handArrival_powered, State.handReference_powered]
      exact hp
    · rw [State.intake_used hused]
      have hnone : (sampleOf m.body).usableYaw = none := hyaw.trans (by rw [hz]; rfl)
      rw [State.handYaw, hnone]
    · rw [State.intake_used hused, hothers j hj]
      exact Fleet.setDynamic_dynamic_other _ _ hj _
    · rw [State.intake_used hused, hown, hdyn, hd]
      rfl
  · have hline := State.intake_line i (sampleOf m.body) s
    rw [State.sampleForward, hline, if_neg (by rcases htag with h | h <;> simp [h])]
    exact biasForward_none
  · have hline := State.intake_line i (sampleOf m.body) s
    have hplanner := congrArg State.planner hframe
    have hupkeep := congrArg State.upkeep hframe
    rw [State.sampleForward, hline, if_pos ⟨htag, hmode⟩, steeringTag_eq, hline]
    generalize s.intake i (sampleOf m.body) = u at *
    rw [show u.planner = s.planner from hplanner, show u.upkeep = s.upkeep from hupkeep]
    rfl

end Sys2Proof.Machine
end

/-! PROOFS. The reports at the blocks: mode inputs (O16), the Estimator (O25), the Planner's latch and builds (O31, O32), previews
(O34). -/

section
namespace Sys2Proof.Machine

variable {s t v : State} {c x : Instr} {m : Mode} {p : Pair}

/-! ### Mode inputs -/

/-- Settles O16. -/
theorem modeReportsSetTheInputs : Obligations.ModeReportsSetTheInputs := by
  intro s m hp
  refine ⟨fun hm => ?_, ?_, fun hm => ?_, ?_, ?_, ?_, ?_⟩
  · simp only [exec, execLinePathModeChange, State.reported_powered hp, State.linePathMode, if_neg hm]
    rfl
  · have hexec : exec (.linePathModeChange .off) s = .next
        (((s.arrive (.linePathModeChange .off)).onLine fun l => { l with modeIn := .off }).purgeInjections) := by
      simp only [exec, execLinePathModeChange, State.reported_powered hp, State.linePathMode, if_true]
    refine ⟨_, hexec, ?_⟩
    by_cases hn : s.line.injections.length = 0
    · have hpurge : ((s.arrive (.linePathModeChange .off)).onLine fun l => { l with modeIn := .off }).purgeInjections =
          (s.arrive (.linePathModeChange .off)).onLine fun l => { l with modeIn := .off } := if_pos hn
      rw [hpurge]
      have hnil := List.length_eq_zero_iff.mp hn
      refine ⟨?_, ?_, rfl, ?_⟩
      · rw [← hnil]
        rfl
      · simp [hn, State.arrive, State.onLine]
      · simp [hnil]
    · have hpurge : ((s.arrive (.linePathModeChange .off)).onLine fun l => { l with modeIn := .off }).purgeInjections =
          { s with
            line := { s.line with modeIn := .off, injections := [] }, gate := { s.gate with scanDue := true }
            reports := s.reports.erase (.linePathModeChange .off) ++ List.replicate s.line.injections.length .roomEvent } :=
        if_neg hn
      rw [hpurge]
      exact ⟨rfl, rfl, rfl, by simp [mt List.length_eq_zero_iff.mpr hn]⟩
  · simp only [exec, execUpkeepModeChange, State.reported_powered hp]
    cases m with
    | off => exact absurd rfl hm
    | live => rfl
    | dry => rfl
    | unwind => rfl
  · simp only [exec, execUpkeepModeChange, State.reported_powered hp]
    rfl
  · simp only [exec, execArrivalMonitorModeChange, State.reported_powered hp]
    rfl
  · simp only [exec, execGateModeChange, State.reported_powered hp]
    rfl
  · simp only [exec, execGateModeChange, State.reported_powered hp]
    rfl

/-! ### Reports taken in their order -/

/-- Of the reports ahead of one, each has those before it ahead of itself. -/
theorem standsAhead.first {reports first mid : List Instr} (h : standsAhead c reports (first ++ x :: mid)) (hx : x ∉ first) :
    standsAhead x reports first := by
  refine ⟨hx, .inr ?_⟩
  rcases h.2 with he | ⟨after, he⟩
  · exact ⟨mid, he⟩
  · exact ⟨mid ++ c :: after, by simp [he]⟩

/-- Where a report of its kind stands ahead of the one a command names, the command takes that one first, and comes to what it is in
the state this leaves (log entry 6). -/
theorem exec_of_behind {kind : Instr → Bool} {take : Instr → State → State}
    (hexec : ∀ {s : State} {c : Instr}, s.powered = true → kind c = true → exec c s = .next (s.takeInOrder kind take c))
    (hpow : (take x (s.arrive x)).powered = s.powered)
    (hkept : (take x (s.arrive x)).reports.filter kind = (s.reports.erase x).filter kind) (hp : s.powered = true)
    (hc : kind c = true) {first mid : List Instr} (h : standsAhead c s.reports (first ++ x :: mid)) (hx : kind x = true)
    (hf : ∀ y ∈ first, kind y = false) :
    exec x s = .next (take x (s.arrive x)) ∧ exec c s = exec c (take x (s.arrive x)) := by
  have hnot : x ∉ first := fun hmem => by simp [hf x hmem] at hx
  refine ⟨?_, ?_⟩
  · rw [hexec hp hx, State.takeInOrder_of_first (h.first hnot) hf]
  · rw [hexec hp hc, hexec (hpow.trans hp) hc, State.takeInOrder_of_behind hkept hc h hx hf]

/-! ### The Estimator -/

theorem exec_estimatorModeChange (hp : s.powered = true) (h : inPlace modeToEstimator (.estimatorModeChange m) s.reports) :
    exec (.estimatorModeChange m) s = .next ((s.arrive (.estimatorModeChange m)).estimatorMode m) := by
  rw [exec_of_modeToEstimator hp rfl, State.takeInOrder_of_inPlace h]
  rfl

/-- In a mode input in which nothing is steered the dwell is cleared (R58). -/
theorem State.estimatorMode_rest (hm : steering m = false) (s : State) :
    s.estimatorMode m = (s.onWind fun w => { w with modeIn := m }).onWind Wind.clearDwell := by
  simp [State.estimatorMode, hm]

theorem State.estimatorMode_invalid (hm : steering m = true) (hv : s.wind.valid = false) :
    s.estimatorMode m = s.onWind fun w => { w with modeIn := m } := by
  simp [State.estimatorMode, hm, hv]

/-- In a mode input that steers, the candidate of a VALID estimate triggers (R59). -/
theorem State.estimatorMode_candidate (hm : steering m = true) (hv : s.wind.valid = true) (hc : s.wind.candidate = some p) :
    s.estimatorMode m = (s.onWind fun w => { w with modeIn := m }).trigger p := by
  have hcand : (s.onWind fun w => { w with modeIn := m }).wind.candidate = some p := hc
  unfold State.estimatorMode
  dsimp only
  rw [if_pos hm, if_pos (show (s.onWind fun w => { w with modeIn := m }).wind.valid = true from hv), hcand]

/-- Settles O25. -/
theorem estimatorTakesTimersAndModes : Obligations.EstimatorTakesTimersAndModes := by
  refine ⟨fun s d hp => ⟨fun hd => ?_, fun p hd hpair => ?_⟩, fun s m x first mid hp hahead hfirst => ?_,
    fun s m hp hin => ⟨fun hm => ?_, fun hm hv => ?_, fun a b hm hv ha hb => ?_⟩⟩
  · simp only [exec, execFreshnessExpiry, State.event_powered hp, hd, State.expire_running]
    rfl
  · simp only [exec, execDwellExpiry, State.event_powered hp, hd, State.expire_running, State.dwellExpired, State.elapse_wind,
      hpair]
    rfl
  · have hkeep := keepsModeReports_takeAtEstimator (.estimatorModeChange x) (s.arrive (.estimatorModeChange x))
    obtain ⟨htaken, hsame⟩ := exec_of_behind (x := .estimatorModeChange x) exec_of_modeToEstimator hkeep.1
      (hkeep.filter_eq fun c hc => modeToEither_iff.mpr (.inl hc)) hp rfl hahead rfl hfirst
    refine ⟨_, htaken, ?_, hsame⟩
    change _ <+: ((s.arrive (.estimatorModeChange x)).estimatorMode x).reports
    unfold State.estimatorMode
    dsimp only
    split
    · split
      · split
        · exact List.prefix_append _ _
        · exact List.prefix_rfl
      · exact List.prefix_rfl
    · exact List.prefix_rfl
  · rw [exec_estimatorModeChange hp hin, State.estimatorMode_rest (by rcases hm with rfl | rfl <;> rfl)]
    rfl
  · rw [exec_estimatorModeChange hp hin, State.estimatorMode_invalid (s := s.arrive _) (inSteering_iff.mp hm) hv]
    rfl
  · have hcand : s.wind.candidate = some ⟨a, b⟩ := by simp [Wind.candidate, ha, hb]
    rw [exec_estimatorModeChange hp hin, State.estimatorMode_candidate (s := s.arrive _) (inSteering_iff.mp hm) hv hcand]
    rfl

/-! ### Triggers and builds -/

/-- What the start of a build leaves, its trim settled (R88). -/
theorem State.startBuild_eq (p : Pair) (s : State) : s.startBuild p = { s.settleTrims with
    planner := { s.planner with
      latch := none
      build := some ⟨.retarget, p, ⟨s.wind.speed, s.settleTrims.monitor.trim p.sector, s.planner.params.gapMin,
        s.planner.params.gapMax, s.planner.params.floor, s.planner.params.biasLimit⟩⟩ }
    tables := { s.tables with plannerBuilding := true }
    reports := s.settleTrims.reports.erase (.swapConditionReport (.plannerBuilding false)) } := by
  unfold State.startBuild State.reportBuilding
  dsimp only
  rw [State.reportCondition_plannerBuilding]
  have hframe := State.settleTrims_frame s
  generalize s.settleTrims = u at hframe ⊢
  rw [hframe]
  rfl

theorem Planner.mayBuild_iff {q : Planner} : q.mayBuild = true ↔
    q.latch ≠ none ∧ q.build = none ∧ inSteering q.modeIn ∧ q.holdIn = false ∧ q.commitIn = false := by
  simp [Planner.mayBuild, inSteering_iff, Option.isSome_iff_ne_none, and_assoc]

theorem State.tryBuild_of_mayBuild (hl : s.planner.latch = some p) (hm : s.planner.mayBuild = true) : s.tryBuild = s.startBuild p := by
  simp [State.tryBuild, hl, hm]

theorem State.tryBuild_of_not (hm : ¬ s.planner.mayBuild = true) : s.tryBuild = s := by
  unfold State.tryBuild
  split
  · rfl
  · exact if_neg hm

theorem exec_plannerModeChange (hp : s.powered = true) (h : inPlace modeToPlanner (.plannerModeChange m) s.reports) :
    exec (.plannerModeChange m) s = .next ((s.arrive (.plannerModeChange m)).plannerMode m) := by
  rw [exec_of_modeToPlanner hp rfl, State.takeInOrder_of_inPlace h]
  rfl

/-- In a mode input that builds, a report of the mode may start one (R101). -/
theorem State.plannerMode_steering (hm : steering m = true) (s : State) :
    s.plannerMode m = (s.onPlanner fun q => { q with modeIn := m }).tryBuild := by
  simp [State.plannerMode, hm]

/-- Settles O31. -/
theorem triggersAreLatchedAndBuilt : Obligations.TriggersAreLatchedAndBuilt := by
  intro s c q hp hc
  have hexec : exec c s = .next (State.tryBuild { s with planner := q, reports := s.reports.erase c }) := by
    rcases hc with ⟨p, rfl, rfl⟩ | ⟨b, rfl, rfl⟩ | ⟨b, rfl, rfl⟩ | ⟨m, hm, rfl, hin, rfl⟩
    · simp only [exec, execRetargetTrigger, State.reported_powered hp]
      rfl
    · simp only [exec, execHoldReport, State.reported_powered hp]
      rfl
    · simp only [exec, execCommitStateReport, State.reported_powered hp]
      rfl
    · rw [exec_plannerModeChange hp hin, State.plannerMode_steering (inSteering_iff.mp hm)]
      rfl
  refine ⟨fun p hl hb hm hh hcommit => ?_, fun hno => ?_⟩
  · have hmay := Planner.mayBuild_iff.mpr ⟨by simp [hl], hb, hm, hh, hcommit⟩
    rw [hexec, State.tryBuild_of_mayBuild hl hmay]
    refine ⟨_, _, trimsSettled_settleTrims hp, State.settleTrims_frame _, rfl, ?_⟩
    rw [State.startBuild_eq]
    exact ⟨rfl, rfl, rfl, rfl⟩
  · rw [hexec, State.tryBuild_of_not]
    rw [Planner.mayBuild_iff]
    rintro ⟨h1, h2, h3, h4, h5⟩
    rcases hno with h | h | h | h | h
    · exact h1 h
    · exact h h2
    · exact h h3
    · exact Bool.false_ne_true (h4.symm.trans h)
    · exact Bool.false_ne_true (h5.symm.trans h)

/-! ### Previews -/

/-- The answer to a late PLANNER request (R177): none where none waits. -/
theorem State.lateAnswer_none {st : Status} {r : List Byte} (h : s.dispatcher.plannerLate = none) :
    s.lateAnswer unitPlanner st r = s := by
  simp [State.lateAnswer, h]

theorem State.lateAnswer_some {q : ReqHead} {st : Status} {r : List Byte} (h : s.dispatcher.plannerLate = some q) :
    s.lateAnswer unitPlanner st r = (s.onDispatcher fun d => { d with plannerLate := none }).answer q unitPlanner st r := by
  simp [State.lateAnswer, h]

/-- The late answer leaves no late PLANNER request and has an egress effect otherwise (R177). -/
theorem onlyEgress_lateAnswer (st : Status) (r : List Byte) (s : State) :
    onlyEgress { s with dispatcher := { s.dispatcher with plannerLate := none } } (s.lateAnswer unitPlanner st r) := by
  cases h : s.dispatcher.plannerLate with
  | none =>
    rw [State.lateAnswer_none h, ← h]
    exact .rfl
  | some q =>
    rw [State.lateAnswer_some h]
    exact onlyEgress_placeReply _ _

/-- The state a preview's completion leaves, before the next build (R104). -/
def State.previewShown (p : PreviewPlan) (s : State) : State :=
  ((s.onPlanner fun q => { q with preview := some p }).lateAnswer unitPlanner .ok p.summary).endBuild

theorem State.previewShown_frame (p : PreviewPlan) (s : State) :
    (s.previewShown p).planner = { s.planner with preview := some p, build := none } ∧
      onlyEgress { s with
        planner := (s.previewShown p).planner, dispatcher := { s.dispatcher with plannerLate := none } } (s.previewShown p) := by
  have hegress := onlyEgress_lateAnswer .ok p.summary (s.onPlanner fun q => { q with preview := some p })
  unfold onlyEgress at hegress
  have hplanner : (s.previewShown p).planner = { s.planner with preview := some p, build := none } := by
    unfold State.previewShown
    rw [hegress]
    rfl
  refine ⟨hplanner, ?_⟩
  rw [hplanner]
  unfold State.previewShown
  rw [hegress]
  rfl

theorem exec_previewCompletion {b : Build} (hp : s.powered = true) (hb : s.planner.build = some b) (hk : b.kind = .preview) :
    exec .previewCompletion s = .next (s.previewShown (s.previewPlan b)).tryBuild := by
  simp only [exec, execPreviewCompletion, State.event_powered hp, State.previewCompleted, hb, hk]
  rfl

theorem dispositionOf_eq (t : Nat) (target : Int) (s : State) :
    ((s.fleet.dynamic t).availability = .fault → s.dispositionOf t target = .unavailable) ∧
      ((s.fleet.dynamic t).availability ≠ .fault → (target - s.gate.component t).natAbs ≤ s.planner.params.deadband →
        s.dispositionOf t target = .noMove) ∧
      ((s.fleet.dynamic t).availability ≠ .fault → s.planner.params.deadband < (target - s.gate.component t).natAbs →
        s.dispositionOf t target =
          .move (s.gate.component t) (ceilDiv (target - s.gate.component t).natAbs s.planner.params.maxStep)) := by
  refine ⟨fun h => if_pos h, fun h hle => ?_, fun h hlt => ?_⟩
  · simp [State.dispositionOf, h, hle]
  · have hne : target - s.gate.component t ≠ 0 := by omega
    simp [State.dispositionOf, h, Nat.not_le.mpr hlt, segmentCount, hne]

/-- Settles O34. -/
theorem previewCompletesAndIsRead : Obligations.PreviewCompletesAndIsRead := by
  refine ⟨fun s b hp hb hk => ?_, fun s s0 h i hs => ⟨fun hn => ?_, fun hn hi => ?_, fun hn hi hpr => ?_,
    fun p hn hi hpr => ⟨fun hw => ?_, fun w hw => ?_⟩⟩⟩
  · obtain ⟨hplanner, hegress⟩ := State.previewShown_frame (s.previewPlan b) s
    have hpow : (s.previewShown (s.previewPlan b)).powered = true := by
      rw [hegress]
      exact hp
    refine ⟨_, s.previewPlan b, s.previewShown (s.previewPlan b), exec_previewCompletion hp hb hk, hplanner, ?_, ?_, hegress, ?_,
      fun hl => ?_, fun h x hl hx => ?_, fun hno => ?_, fun q hl hm hh hc => ?_, rfl, rfl, rfl, rfl, ?_, fun w hw => ?_⟩
    · rw [hegress]
    · rw [hegress]
    · exact List.mem_append_right _ (List.mem_singleton_self _)
    · unfold State.previewShown
      rw [State.lateAnswer_none (by exact hl)]
      rfl
    · have hshown : s.previewShown (s.previewPlan b) = x.endBuild := by
        unfold State.previewShown
        rw [State.lateAnswer_some (by exact hl), hx]
        rfl
      rw [hshown]
      rfl
    · refine State.tryBuild_of_not ?_
      rw [Planner.mayBuild_iff, hplanner]
      rintro ⟨h1, -, h3, h4, h5⟩
      rcases hno with h | h | h | h
      · exact h1 h
      · exact h h3
      · exact Bool.false_ne_true (h4.symm.trans h)
      · exact Bool.false_ne_true (h5.symm.trans h)
    · have hmay : (s.previewShown (s.previewPlan b)).planner.mayBuild = true := by
        rw [Planner.mayBuild_iff, hplanner]
        exact ⟨by simp [hl], rfl, hm, hh, hc⟩
      refine ⟨_, trimsSettled_settleTrims hpow, State.settleTrims_frame _, ?_⟩
      have hwind : (s.previewShown (s.previewPlan b)).wind = s.wind := by rw [hegress]
      have htables : (s.previewShown (s.previewPlan b)).tables = s.tables := by rw [hegress]
      rw [State.tryBuild_of_mayBuild (p := q) (by rw [hplanner]; exact hl) hmay, State.startBuild_eq, hwind, htables]
      simp only [hplanner]
    · simp only [State.previewPlan, List.map_map, State.planRecord]
      rfl
    · obtain ⟨slot, -, rfl⟩ := List.mem_map.mp hw
      refine ⟨List.map_map.trans (List.map_id _), fun m hm => ?_⟩
      obtain ⟨t, -, rfl⟩ := List.mem_map.mp hm
      exact ⟨rfl, dispositionOf_eq t _ s⟩
  · exact answers_of_atOnce rfl hs (if_pos (Option.isSome_iff_ne_none.mpr hn))
  · exact answers_of_atOnce rfl hs (by simp [hn, hi, refuse])
  · exact answers_of_atOnce rfl hs (by simp [hn, Nat.not_lt.mpr hi, hpr, u8])
  · exact answers_of_atOnce rfl hs (by simp [hn, Nat.not_lt.mpr hi, hpr, hw, refuse])
  · exact answers_of_atOnce rfl hs (by simp [hn, Nat.not_lt.mpr hi, hpr, hw, u8])

end Sys2Proof.Machine
end

/-! PROOFS. The ways a pair leaves the latch, and the Planner's entries to OFF and UNWIND (O32). -/

section
namespace Sys2Proof.Machine

variable {made : Prop} {s t u : State} {c x : Instr} {m : Mode} {p : Pair}

/-! ### The latch -/

/-- The pair `p` is latched, or a build for it has started (R86). -/
def latchServed (p : Pair) (s : State) : Prop :=
  s.planner.latch = some p ∨ (s.planner.latch = none ∧ ∃ b, s.planner.build = some b ∧ b.kind = .retarget ∧ b.pair = p)

theorem latchServed_congr (h : latchServed p s) (hl : t.planner.latch = s.planner.latch) (hb : t.planner.build = s.planner.build) :
    latchServed p t := by
  unfold latchServed
  rw [hl, hb]
  exact h

/-- The latch is out of the reach of the commands that do not plan. -/
theorem Change.latch_eq (h : Change made False s t) : t.planner.latch = s.planner.latch := by
  induction h with
  | trans _ _ ih1 ih2 => exact ih2.trans ih1
  | plannerTakes _ _ hp _ => exact hp.elim
  | planner _ _ _ hl _ => exact hl
  | latch _ _ hp => exact hp.elim
  | build _ _ hp _ => exact hp.elim
  | factory _ _ _ hp => exact hp.elim
  | load _ _ _ hp _ => exact hp.elim
  | restart _ hp => exact hp.elim
  | _ => rfl

/-- A build that is tried is one for the pair latched, or none. -/
theorem latchServed_tryBuild (h : s.planner.latch = some p) : latchServed p s.tryBuild := by
  by_cases hm : s.planner.mayBuild = true
  · rw [State.tryBuild_of_mayBuild h hm, State.startBuild_eq]
    exact .inr ⟨rfl, _, rfl, rfl, rfl⟩
  · rw [State.tryBuild_of_not hm]
    exact .inl h

/-- A report of LIVE or DRY serves the latch. -/
theorem latchServed_plannerMode (hm : steering m = true) (h : latchServed p s) : latchServed p (s.plannerMode m) := by
  rw [State.plannerMode_steering hm]
  rcases h with h | ⟨h, hb⟩
  · exact latchServed_tryBuild h
  · have hnot : (s.onPlanner fun q => { q with modeIn := m }).tryBuild = s.onPlanner fun q => { q with modeIn := m } := by
      simp [State.tryBuild, h]
    rw [hnot]
    exact .inr ⟨h, hb⟩

theorem latchServed_takeAtEstimator (h : latchServed p s) : latchServed p (s.takeAtEstimator c) := by
  unfold State.takeAtEstimator
  split
  · rw [State.estimatorMode_frame]
    exact h
  · exact h

theorem latchServed_takeAtPlanner (hc : ∀ m, c = .plannerModeChange m → steering m = true) (h : latchServed p s) :
    latchServed p (s.takeAtPlanner c) := by
  unfold State.takeAtPlanner
  split
  · next m hm => exact latchServed_plannerMode (hc m (eq_of_plannerReportOf hm)) h
  · exact h

theorem latchServed_takeEach {take : Instr → State → State} {cs : List Instr}
    (ht : ∀ c ∈ cs, ∀ u, latchServed p u → latchServed p (take c u)) (h : latchServed p s) : latchServed p (s.takeEach take cs) := by
  induction cs generalizing s with
  | nil => exact h
  | cons c cs ih => exact ih (fun d hd => ht d (List.mem_cons_of_mem _ hd)) (ht c List.mem_cons_self _ h)

/-- Some report of OFF or UNWIND is under way to the Planner. -/
def restReported (s : State) : Prop := ∃ m, (m = .off ∨ m = .unwind) ∧ .plannerModeChange m ∈ s.reports

theorem steering_of_not_restReported (h : ¬ restReported s) (hm : .plannerModeChange m ∈ s.reports) : steering m = true := by
  refine Classical.byContradiction fun hn => ?_
  refine h ⟨m, ?_, hm⟩
  cases m with
  | off => exact .inl rfl
  | unwind => exact .inr rfl
  | live => exact absurd rfl hn
  | dry => exact absurd rfl hn

theorem latchServed_settleModes (hr : ¬ restReported s) (h : latchServed p s) : latchServed p s.settleModes := by
  refine latchServed_takeEach (fun c hc u hu => ?_) h
  refine latchServed_takeAtPlanner (fun m hm => steering_of_not_restReported hr ?_) (latchServed_takeAtEstimator hu)
  exact hm ▸ (List.mem_filter.mp hc).1

theorem latchServed_answer {h : ReqHead} {n : Nat} {st : Status} {r : List Byte} (hs : latchServed p s) :
    latchServed p (s.answer h n st r) := by
  have hegress : onlyEgress s (s.answer h n st r) := onlyEgress_placeReply _ s
  rw [hegress]
  exact hs

/-- A geometry request leaves the latch as the reports of a mode that it takes do (log entry 52). -/
theorem latchServed_geometry {α : Type} {a : Option α} {ok : State → α → Bool} {f : α → State → State}
    (hf : ∀ x u, (f x u).planner = u.planner) {h : ReqHead} {n : Nat} {t : State}
    (he : s.atOnce c h n (fun s => s.geometry a (ok s) f) = .next t) (hr : ¬ restReported s) (hs : latchServed p s) :
    latchServed p t := by
  simp only [State.atOnce, State.handed, Host.Outcome.next.injEq] at he
  subst he
  split
  · exact hs
  · next s0 htake =>
    obtain ⟨-, -, hs0⟩ := State.takeRequest_spec htake
    have hserved : latchServed p s0 := hs0 ▸ hs
    have hrest : ¬ restReported s0 := hs0 ▸ hr
    split
    · exact latchServed_answer hserved
    split
    · exact latchServed_answer hserved
    refine latchServed_answer ?_
    unfold State.geometry
    split
    · exact hserved
    · exact hserved
    · next y _ =>
      split
      · have hplanner : (s0.takeGeometry (f y)).1.planner = s0.settleModes.planner := hf y _
        exact latchServed_congr (latchServed_settleModes hrest hserved) (congrArg _ hplanner) (congrArg _ hplanner)
      · exact hserved

/-- What the install leaves before the next build (R93-R97). -/
theorem installed_eq_tryBuild (b : Build) (s : State) : ∃ u, s.installed b = u.tryBuild ∧ Change True False s u := by
  refine ⟨_, rfl, ?_⟩
  refine Change.endBuild (Change.abortAfterEntry ?_)
  have hplan : Change True False s (s.installPlan b) := (Change.refl s).installPlan b
  dsimp only
  repeat' split
  · exact hplan
  · exact (hplan.reportInstall _ _ _ _ _ _).testCompletion
  · exact hplan.reportInstall _ _ _ _ _ _

/-! ### The commands that may touch the latch -/

theorem latchServed_plannerModeChange (he : exec (.plannerModeChange m) s = .next t) (hl : latchServed p s)
    (hm : steering m = true) (hr : ¬ restReported s) : latchServed p t := by
  cases hp : s.powered with
  | false =>
    simp only [exec, execPlannerModeChange, State.event_reset hp, Host.Outcome.next.injEq] at he
    exact he ▸ hl
  | true =>
    rw [exec_of_modeToPlanner hp rfl, Host.Outcome.next.injEq] at he
    subst he
    refine latchServed_takeAtPlanner (fun x hx => by cases hx; exact hm) (latchServed_takeEach (fun c hc u hu => ?_) hl)
    refine latchServed_takeAtPlanner (fun x hx => steering_of_not_restReported hr ?_) hu
    exact hx ▸ (List.takeWhile_prefix _).subset (List.mem_filter.mp hc).1

theorem latchServed_install (he : exec .install s = .next t) (hl : s.planner.latch = some p) : latchServed p t := by
  cases hp : s.powered with
  | false =>
    simp only [exec, execInstall, State.event_reset hp, Host.Outcome.next.injEq] at he
    exact he ▸ .inl hl
  | true =>
    simp only [exec, execInstall, State.event_powered hp, Host.Outcome.next.injEq] at he
    subst he
    split
    · exact .inl hl
    · next b _ =>
      split
      · obtain ⟨u, hu, hchange⟩ := installed_eq_tryBuild b s
        rw [hu]
        exact latchServed_tryBuild (hchange.latch_eq.trans hl)
      · exact .inl hl

theorem latchServed_previewCompletion (he : exec .previewCompletion s = .next t) (hl : s.planner.latch = some p) :
    latchServed p t := by
  cases hp : s.powered with
  | false =>
    simp only [exec, execPreviewCompletion, State.event_reset hp, Host.Outcome.next.injEq] at he
    exact he ▸ .inl hl
  | true =>
    simp only [exec, execPreviewCompletion, State.event_powered hp, Host.Outcome.next.injEq, State.previewCompleted] at he
    subst he
    split
    · exact .inl hl
    · next b _ =>
      split
      · exact .inl hl
      · refine latchServed_tryBuild (s := s.previewShown (s.previewPlan b)) ?_
        rw [(State.previewShown_frame _ s).1]
        exact hl

/-- A report that sets an input of the Planner and may start a build. -/
theorem latchServed_reported {f : State → State} (he : State.reported c (fun s => (f s).tryBuild) s = .next t)
    (hf : ∀ u, (f u).planner.latch = u.planner.latch) (hl : s.planner.latch = some p) : latchServed p t := by
  cases hp : s.powered with
  | false =>
    rw [State.reported_reset hp, Host.Outcome.next.injEq] at he
    exact he ▸ .inl hl
  | true =>
    rw [State.reported_powered hp, Host.Outcome.next.injEq] at he
    exact he ▸ latchServed_tryBuild ((hf _).trans hl)

theorem latchServed_transmissionEnd {port : Port} (he : exec (.transmissionEnd port) s = .next t)
    (hx : ∀ x, (s.line.port port).transmission = some x → x.restartReply = false) (hl : latchServed p s) : latchServed p t := by
  cases hp : s.powered with
  | false =>
    simp only [exec, execTransmissionEnd, State.event_reset hp, Host.Outcome.next.injEq] at he
    exact he ▸ hl
  | true =>
    simp only [exec, execTransmissionEnd, State.event_powered hp, Host.Outcome.next.injEq] at he
    subst he
    split
    · next x hsome =>
      have hegress := onlyEgress_arbitrate port (s.onLine fun l => l.setPort port { l.port port with transmission := none })
      simp only [State.transmissionEnded, hx x hsome, Bool.false_eq_true, if_false]
      rw [hegress]
      exact hl
    · exact hl

theorem latchServed_of_not_mayTouch (hc : mayTouchLatch c = false) (he : exec c s = .next t) (hl : s.planner.latch = some p) :
    latchServed p t := by
  obtain ⟨u, hu, hchange⟩ := exec_change c s
  cases hu.symm.trans he
  exact .inl ((Change.latch_eq (hchange.mono id (by simp [hc]))).trans hl)

/-- The commands that take the reports of a mode at the Planner (log entries 43 and 52). -/
def takesModes (c : Instr) : Prop :=
  (∃ x, c = .plannerModeChange x) ∨ (∃ h a, c = .setTurbine h a) ∨ (∃ h a, c = .clearTurbine h a) ∨
    (∃ h a, c = .setRow h a) ∨ ∃ h a, c = .setSectors h a

/-- A report of OFF or UNWIND is taken by the command. -/
def restTaken (c : Instr) (s : State) : Prop :=
  ∃ m, (m = .off ∨ m = .unwind) ∧ (c = .plannerModeChange m ∨ .plannerModeChange m ∈ s.reports) ∧ takesModes c

theorem restTaken_of_reported (h : restReported s) (hc : takesModes c) : restTaken c s := by
  obtain ⟨m, hm, hmem⟩ := h
  exact ⟨m, hm, .inr hmem, hc⟩

/-- A geometry request serves the pair, or takes a report of OFF or UNWIND. -/
theorem latch_geometry {α : Type} {a : Option α} {ok : State → α → Bool} {f : α → State → State}
    (hf : ∀ x u, (f x u).planner = u.planner) {h : ReqHead} {n : Nat} {t : State}
    (hx : exec c s = s.atOnce c h n fun s => s.geometry a (ok s) f) (he : exec c s = .next t) (hc : takesModes c) (hs : latchServed p s) :
    latchServed p t ∨ restTaken c s := by
  by_cases hr : restReported s
  · exact .inr (restTaken_of_reported hr hc)
  · exact .inl (latchServed_geometry hf (hx.symm.trans he) hr hs)

/-- The ways a pair leaves the latch (R86). -/
theorem latch_leaves (he : exec c s = .next t) (hl : s.planner.latch = some p) : latchServed p t ∨
    (∃ q, c = .retargetTrigger q) ∨ restTaken c s ∨ c = .resetAssertion ∨ (s.powered = false ∧ ∃ a x y, c = .startUp a x y) ∨
    (∃ port x, c = .transmissionEnd port ∧ (s.line.port port).transmission = some x ∧ x.restartReply = true) := by
  have hserved : latchServed p s := .inl hl
  have hgeometry : latchServed p t ∨ restTaken c s → latchServed p t ∨ (∃ q, c = .retargetTrigger q) ∨ restTaken c s ∨
      c = .resetAssertion ∨ (s.powered = false ∧ ∃ a x y, c = .startUp a x y) ∨
      (∃ port x, c = .transmissionEnd port ∧ (s.line.port port).transmission = some x ∧ x.restartReply = true) :=
    fun h => h.imp_right fun h => .inr (.inl h)
  by_cases hmay : mayTouchLatch c = false
  · exact .inl (latchServed_of_not_mayTouch hmay he hl)
  unfold mayTouchLatch at hmay
  split at hmay
  · exact .inr (.inl ⟨_, rfl⟩)
  · exact .inl (latchServed_reported (f := fun s => s.onPlanner fun q => { q with holdIn := _ }) he (fun _ => rfl) hl)
  · exact .inl (latchServed_reported (f := fun s => s.onPlanner fun q => { q with commitIn := _ }) he (fun _ => rfl) hl)
  · next m =>
    by_cases hr : restReported s
    · exact hgeometry (.inr (restTaken_of_reported hr (.inl ⟨_, rfl⟩)))
    · cases m with
      | off => exact hgeometry (.inr ⟨.off, .inl rfl, .inl rfl, .inl ⟨_, rfl⟩⟩)
      | unwind => exact hgeometry (.inr ⟨.unwind, .inr rfl, .inl rfl, .inl ⟨_, rfl⟩⟩)
      | live => exact .inl (latchServed_plannerModeChange he hserved rfl hr)
      | dry => exact .inl (latchServed_plannerModeChange he hserved rfl hr)
  · exact .inl (latchServed_install he hl)
  · exact .inl (latchServed_previewCompletion he hl)
  · next h a =>
    exact hgeometry (latch_geometry (a := a) (ok := fun s x => s.setTurbineOk x.1 x.2)
      (f := fun x => State.onFleet (Fleet.setTurbine x.1 x.2)) (fun _ _ => rfl) rfl he (.inr (.inl ⟨h, a, rfl⟩)) hserved)
  · next h a =>
    exact hgeometry (latch_geometry (a := a) (ok := State.knownTurbine) (f := fun i => State.onFleet (Fleet.clearTurbine i))
      (fun _ _ => rfl) rfl he (.inr (.inr (.inl ⟨h, a, rfl⟩))) hserved)
  · next h a =>
    exact hgeometry (latch_geometry (a := a) (ok := State.setRowOk)
      (f := fun x => State.onFleet (Fleet.setRow x.row ⟨x.members, x.arrivalRef⟩)) (fun _ _ => rfl) rfl he (.inr (.inr (.inr (.inl ⟨h, a, rfl⟩)))) hserved)
  · next h a =>
    exact hgeometry (latch_geometry (a := a) (ok := fun _ => sectorCountOk) (f := fun n => State.onWind (Wind.setSectors n))
      (fun _ _ => rfl) rfl he (.inr (.inr (.inr (.inr ⟨h, a, rfl⟩)))) hserved)
  · exact .inr (.inr (.inr (.inl rfl)))
  · next a x y =>
    cases hp : s.powered with
    | false => exact .inr (.inr (.inr (.inr (.inl ⟨rfl, a, x, y, rfl⟩))))
    | true =>
      simp only [exec, execStartUp, hp, if_true, Host.Outcome.next.injEq] at he
      exact .inl (he ▸ hserved)
  · next port =>
    by_cases hx : ∃ x, (s.line.port port).transmission = some x ∧ x.restartReply = true
    · obtain ⟨x, hsome, hreply⟩ := hx
      exact .inr (.inr (.inr (.inr (.inr ⟨port, x, rfl, hsome, hreply⟩))))
    · exact .inl (latchServed_transmissionEnd he
        (fun x hsome => Bool.eq_false_iff.mpr fun hreply => hx ⟨x, hsome, hreply⟩) hserved)
  · exact absurd rfl hmay

/-! ### Entries to OFF and UNWIND -/

/-- The report of OFF or UNWIND at the Planner with no build going on, or one that goes on in OFF (R101, R105). -/
theorem State.plannerMode_rest (hm : steering m = false)
    (hb : s.planner.build = none ∨ ∃ b, s.planner.build = some b ∧ b.kind = .preview ∧ m ≠ .unwind) :
    s.plannerMode m = s.onPlanner fun q => { q with modeIn := m, latch := none } := by
  rcases hb with hb | ⟨b, hb, hk, hne⟩
  · simp [State.plannerMode, hm, hb, State.onPlanner]
  · simp [State.plannerMode, hm, hb, hk, hne, State.onPlanner]

theorem State.plannerMode_retarget (hm : steering m = false) {b : Build} (hb : s.planner.build = some b) (hk : b.kind = .retarget) :
    s.plannerMode m = (s.onPlanner fun q => { q with modeIn := m, latch := none }).endBuild := by
  simp [State.plannerMode, hm, hb, hk, State.onPlanner]

theorem State.plannerMode_preview {b : Build} (hb : s.planner.build = some b) (hk : b.kind = .preview) :
    s.plannerMode .unwind =
      ((s.onPlanner fun q => { q with modeIn := .unwind, latch := none }).lateAnswer unitPlanner .badMode []).endBuild := by
  have hm : steering .unwind = false := rfl
  simp [State.plannerMode, hm, hb, hk, State.onPlanner]

/-- Settles O32. -/
theorem plannerAbandonsOnModeReport : Obligations.PlannerAbandonsOnModeReport := by
  refine ⟨fun s t c p he hl => ?_, fun s m x first mid hp hahead hfirst => ?_, fun s m hp hin hm => ?_⟩
  · rcases latch_leaves he hl with (h | h) | h
    · exact .inl h
    · exact .inr (.inl h)
    · exact .inr (.inr h)
  · have hkeep := keepsModeReports_takeAtPlanner (.plannerModeChange x) (s.arrive (.plannerModeChange x))
    have hkept := hkeep.filter_eq (kind := modeToPlanner) fun c hc => modeToEither_iff.mpr (.inr hc)
    obtain ⟨htaken, hsame⟩ := exec_of_behind (x := .plannerModeChange x) exec_of_modeToPlanner hkeep.1 hkept hp rfl hahead rfl hfirst
    exact ⟨_, htaken, hkept, hsame⟩
  have hrest : steering m = false := by rcases hm with rfl | rfl <;> rfl
  rw [exec_plannerModeChange hp hin]
  refine ⟨fun hb => ?_, fun b hb hk => ?_, fun b hb hk => ⟨fun hoff => ?_, fun h hunwind hl => ?_⟩⟩
  · rw [State.plannerMode_rest (s := s.arrive _) hrest (.inl hb)]
    rfl
  · rw [State.plannerMode_retarget (s := s.arrive _) hrest hb hk]
    rfl
  · rw [State.plannerMode_rest (s := s.arrive _) hrest (.inr ⟨b, hb, hk, by simp [hoff]⟩)]
    rfl
  · subst hunwind
    have htaken : (s.arrive (.plannerModeChange .unwind)).plannerMode .unwind = (State.answer h 4 .badMode [] { s with
        planner := { s.planner with modeIn := .unwind, latch := none }
        reports := s.reports.erase (.plannerModeChange .unwind)
        dispatcher := { s.dispatcher with plannerLate := none } }).endBuild := by
      rw [State.plannerMode_preview (s := s.arrive _) hb hk, State.lateAnswer_some (q := h) (by exact hl)]
      rfl
    refine ⟨_, _, congrArg _ htaken, rfl, rfl, ?_⟩
    have hframe : onlyEgress { s with
        planner := { s.planner with modeIn := .unwind, latch := none }
        reports := s.reports.erase (.plannerModeChange .unwind)
        dispatcher := { s.dispatcher with plannerLate := none } } (State.answer h 4 .badMode [] { s with
          planner := { s.planner with modeIn := .unwind, latch := none }
          reports := s.reports.erase (.plannerModeChange .unwind)
          dispatcher := { s.dispatcher with plannerLate := none } }) :=
      onlyEgress_placeReply _ _
    generalize State.answer h 4 .badMode [] { s with
      planner := { s.planner with modeIn := .unwind, latch := none }
      reports := s.reports.erase (.plannerModeChange .unwind)
      dispatcher := { s.dispatcher with plannerLate := none } } = x at hframe ⊢
    refine ⟨?_, ?_, List.mem_append_right _ (List.mem_singleton_self _), ?_, ?_, ?_⟩ <;> rw [hframe] <;> rfl

end Sys2Proof.Machine
end

/-! PROOFS. The Arrival Monitor: installs and releases (O49), watches (O50), the end of a monitored plan (O51). -/

section
namespace Sys2Proof.Machine

variable {s t : State} {c x : Instr}

/-! ### Reports at the Monitor -/

/-- A report of the Gate that is in its place is taken by the Monitor (section 9). -/
theorem exec_toMonitor (hp : s.powered = true) (hc : gateToMonitor c = true) (h : inPlace gateToMonitor c s.reports) :
    exec c s = .next ((s.arrive c).takeAtMonitor c) := by
  rw [exec_of_gateToMonitor hp hc, State.takeInOrder_of_inPlace h]

theorem Watch.void_eq : Watch.void = fun w =>
    if w.state = .waiting ∨ w.state = .armed then { w with state := .decided .void, window := none } else w := by
  funext w
  unfold Watch.void
  split <;> simp [*]

theorem Watch.complete_eq : Watch.complete = fun w =>
    if w.state = .armed then { w with state := .decided .none, window := none }
    else if w.state = .waiting then { w with state := .unwatched .notArmed } else w := by
  funext w
  unfold Watch.complete
  split <;> simp [*]

theorem Watch.windowExpired_eq : Watch.windowExpired = fun w =>
    if w.state = .armed then { w with state := .decided .none, window := none } else w := by
  funext w
  unfold Watch.windowExpired
  split <;> simp [*]

/-- One watch per downwind row of an install (R148). -/
theorem newWatches_spec (f : Fleet) (n : Nat) (waves : List WaveInfo) :
    (newWatches f n waves).length = waves.length - 1 ∧
      ∀ k up down, waves[k]? = some up → waves[k + 1]? = some down →
        (newWatches f n waves)[k]? = some (newWatch f (n + k) up down) := by
  induction waves generalizing n with
  | nil => simp [newWatches]
  | cons w rest ih =>
    cases rest with
    | nil => simp [newWatches]
    | cons w2 rest =>
      obtain ⟨hlen, hget⟩ := ih (n + 1)
      refine ⟨by simp [newWatches, hlen], fun k up down hu hd => ?_⟩
      cases k with
      | zero =>
        simp only [List.getElem?_cons_zero, Option.some.injEq, Nat.zero_add, List.getElem?_cons_succ] at hu hd
        simp [newWatches, hu, hd]
      | succ k =>
        have hk := hget k up down (by simpa using hu) (by simpa using hd)
        rw [newWatches, List.getElem?_cons_succ, hk]
        congr 2
        omega

theorem newWatch_eq (f : Fleet) (k : Nat) (up down : WaveInfo) : newWatch f k up down =
    { index := k, upwind := up.row, downwind := down.row, delay := down.delay.getD 0
      reference := (f.row down.row).arrivalRef, release := none
      state := if (f.row down.row).arrivalRef = none then .unwatched .noReference else .waiting
      armed := none, baseline := none, threshold := none, windowLength := none, window := none
      observed := none, power := none } := by
  unfold newWatch
  cases (f.row down.row).arrivalRef <;> rfl

theorem Monitor.monitors_iff {m : Monitor} {n : Nat} : m.monitors n = true ↔ ∃ p, m.plan = some p ∧ p.number = n := by
  cases h : m.plan <;> simp [Monitor.monitors, h]

section
variable {m : Monitor} {n second : Nat} {ended : PlanEnd}

theorem Monitor.voidPlan_monitored {p : MonitoredPlan} (h : m.plan = some p) :
    m.voidPlan p.number ended second = m.close p ended second .notTaken (m.watches.map Watch.void) := by
  simp [Monitor.voidPlan, h]

theorem Monitor.voidPlan_other (h : ∀ p, m.plan = some p → p.number ≠ n) : m.voidPlan n ended second = m := by
  unfold Monitor.voidPlan
  split
  · rfl
  · next p hp => exact if_neg (h p hp)

theorem Monitor.voidPlan_modeIn : (m.voidPlan n ended second).modeIn = m.modeIn := by
  unfold Monitor.voidPlan
  split
  · rfl
  · split <;> rfl

end

/-- What an install leaves at the Monitor once the superseded plan is closed (R148). -/
def Monitor.monitorPlan (f : Fleet) (i : InstallInfo) (m : Monitor) : Monitor :=
  if m.modeIn = .live then { m with plan := some ⟨i.plan, i.pair, i.trim⟩, watches := newWatches f 1 i.waves }
  else { m with plan := none, watches := [] }

theorem Monitor.installed_superseding {i : InstallInfo} {old : Nat} (h : i.superseded = some old) (f : Fleet) (second : Nat)
    (m : Monitor) : Monitor.installed f i second m = (m.voidPlan old .superseded second).monitorPlan f i := by
  simp only [Monitor.installed, h]
  rfl

theorem Monitor.installed_fresh {i : InstallInfo} (h : i.superseded = none) (f : Fleet) (second : Nat) (m : Monitor) :
    Monitor.installed f i second m = m.monitorPlan f i := by
  simp only [Monitor.installed, h]
  rfl

@[simp] theorem Monitor.monitorPlan_arrivals (f : Fleet) (i : InstallInfo) (m : Monitor) :
    (m.monitorPlan f i).arrivals = m.arrivals := by
  unfold Monitor.monitorPlan
  split <;> rfl

/-- What an install leaves of the plan and the watches depends on the mode input alone (R148). -/
theorem Monitor.installed_watches (f : Fleet) (i : InstallInfo) (second : Nat) (m : Monitor) :
    (Monitor.installed f i second m).plan = (m.monitorPlan f i).plan ∧
      (Monitor.installed f i second m).watches = (m.monitorPlan f i).watches := by
  cases h : i.superseded with
  | none =>
    rw [Monitor.installed_fresh h]
    exact ⟨rfl, rfl⟩
  | some old =>
    rw [Monitor.installed_superseding h]
    simp only [Monitor.monitorPlan, Monitor.voidPlan_modeIn]
    split <;> exact ⟨rfl, rfl⟩

/-- The release report of a wave marks the watches of that wave alone, where its plan is monitored (R148). -/
theorem Monitor.released_eq (plan wave second : Nat) (m : Monitor) : Monitor.released plan wave second m = { m with
    watches := m.watches.map fun w => if (∃ p, m.plan = some p ∧ p.number = plan) ∧ wave ≠ 0 ∧ w.index = wave
      then { w with release := some second } else w } := by
  by_cases h : (∃ p, m.plan = some p ∧ p.number = plan) ∧ wave ≠ 0
  · obtain ⟨hplan, hwave⟩ := h
    have hwatches : ∀ w : Watch, ((∃ p, m.plan = some p ∧ p.number = plan) ∧ wave ≠ 0 ∧ w.index = wave) ↔ w.index = wave :=
      fun w => ⟨fun h => h.2.2, fun h => ⟨hplan, hwave, h⟩⟩
    simp only [hwatches]
    exact if_pos ⟨Monitor.monitors_iff.mpr hplan, hwave⟩
  · have hwatches : ∀ w : Watch, ¬ ((∃ p, m.plan = some p ∧ p.number = plan) ∧ wave ≠ 0 ∧ w.index = wave) :=
      fun w hw => h ⟨hw.1, hw.2.1⟩
    simp only [hwatches, if_false, List.map_id']
    exact if_neg fun hm => h ⟨Monitor.monitors_iff.mp hm.1, hm.2⟩

/-- Settles O49. -/
theorem monitorTakesInstallAndRelease : Obligations.MonitorTakesInstallAndRelease := by
  refine ⟨fun s c x first mid hp hc hahead hx hfirst => ?_, fun s i hp hin => ?_, fun s plan wave hp hin => ?_⟩
  · have hframe := State.takeAtMonitor_frame x (s.arrive x)
    have hreports : ((s.arrive x).takeAtMonitor x).reports = s.reports.erase x := by rw [hframe]; rfl
    obtain ⟨htaken, hsame⟩ := exec_of_behind exec_of_gateToMonitor (by rw [hframe]; rfl) (congrArg _ hreports) hp hc hahead hx hfirst
    exact ⟨_, htaken, hreports, hsame⟩
  · rw [exec_toMonitor hp rfl hin]
    have hmonitor : ((s.arrive (.installReport i)).takeAtMonitor (.installReport i)).monitor =
        Monitor.installed s.fleet i s.now s.monitor := rfl
    obtain ⟨hplan, hwatches⟩ := Monitor.installed_watches s.fleet i s.now s.monitor
    refine ⟨_, rfl, rfl, Monitor.installed_trims _ _ _ _, fun p hp hold => ?_, fun hother => ?_, fun hm => ?_, fun hm => ?_⟩
    · rw [hmonitor, Monitor.installed_superseding hold, Monitor.voidPlan_monitored hp, Monitor.monitorPlan_arrivals]
      rw [Watch.void_eq]
      rfl
    · rw [hmonitor]
      cases hs : i.superseded with
      | none => rw [Monitor.installed_fresh hs, Monitor.monitorPlan_arrivals]
      | some old =>
        rw [Monitor.installed_superseding hs, Monitor.monitorPlan_arrivals,
          Monitor.voidPlan_other fun p hp hn => hother p hp (hs.trans (congrArg some hn.symm))]
    · rw [hmonitor, hplan, hwatches, Monitor.monitorPlan, if_neg hm]
      exact ⟨rfl, rfl⟩
    · obtain ⟨hlen, hget⟩ := newWatches_spec s.fleet 1 i.waves
      rw [hmonitor, hplan, hwatches, Monitor.monitorPlan, if_pos hm]
      refine ⟨rfl, hlen, fun k up down hu hd => ?_⟩
      rw [hget k up down hu hd, newWatch_eq, Nat.add_comm]
  · rw [exec_toMonitor hp rfl hin]
    change Host.Outcome.next ((s.arrive (.releaseReport plan wave)).onMonitor (Monitor.released plan wave s.now)) = _
    unfold State.onMonitor
    rw [Monitor.released_eq]
    rfl

/-! ### Watches -/

/-- The arming report arms the next watch where that waits (R149). -/
theorem Watch.arm_eq (p0 theta gapMax second clock : Nat) (w : Watch) : w.arm p0 theta gapMax second clock =
    if w.state = .waiting then
      (if p0 = 0 then { w with state := .unwatched .noBaseline, armed := some second, baseline := some 0 }
      else { w with
        state := .armed, armed := some second, baseline := some p0, threshold := some (p0 + p0 * theta / 256)
        windowLength := some (min (2 * w.delay) gapMax), window := some (clock + min (2 * w.delay) gapMax) })
    else w := by
  unfold Watch.arm
  split <;> simp [*]

/-- The sample that decides a watch, by the delay observed (R150). -/
theorem Watch.judge_armed {w : Watch} {power time tau th a : Nat} (hs : w.state = .armed) (hth : w.threshold = some th)
    (hp : th ≤ power) (ha : w.armed = some a) (hle : a ≤ time) (hlt : time < 4294967296) : w.judge power time tau = { w with
      state := .decided (if ((time - a : Nat) : Int) < w.delay - tau then .early
        else if ((time - a : Nat) : Int) > w.delay + tau then .late else .onTime)
      window := none, observed := some (time - a), power := some power } := by
  have hdiff : timebaseDiff time a = time - a := by
    simp only [timebaseDiff, Config.timebaseSpan]
    omega
  have houtcome : arrivalOutcome w.delay tau (time - a) = if ((time - a : Nat) : Int) < w.delay - tau then .early
      else if ((time - a : Nat) : Int) > w.delay + tau then .late else .onTime := by
    have hearly : ((time - a : Nat) : Int) < w.delay - tau ↔ time - a + tau < w.delay := by omega
    have hlate : ((time - a : Nat) : Int) > w.delay + tau ↔ w.delay + tau < time - a := by omega
    simp only [arrivalOutcome, hearly, hlate]
  simp [Watch.judge, hs, hth, hp, ha, hdiff, houtcome]

theorem Watch.judge_kept {w : Watch} {power time tau : Nat}
    (h : w.state ≠ .armed ∨ ∃ th, w.threshold = some th ∧ power < th) : w.judge power time tau = w := by
  refine if_neg fun ⟨hs, hle⟩ => ?_
  rcases h with h | ⟨th, hth, hlt⟩
  · exact h hs
  · rw [hth] at hle
    exact absurd hle (Nat.not_le.mpr hlt)

/-- An arming report arms the next watch of the monitored plan (R149). -/
theorem State.armWatch_monitored {plan wave : Nat} (h : s.monitor.monitors plan = true) : s.armWatch plan wave = { s with
    monitor := s.monitor.onWatch (wave + 1) fun w =>
      w.arm (s.fleet.baseline w) s.monitor.theta s.planner.params.gapMax s.now s.clock } := by
  simp only [State.armWatch, State.onMonitor, h, if_true]

theorem State.armWatch_other {plan wave : Nat} (h : ∀ p, s.monitor.plan = some p → p.number ≠ plan) : s.armWatch plan wave = s := by
  have hnot : ¬ s.monitor.monitors plan = true := fun hm => by
    obtain ⟨p, hp, hn⟩ := Monitor.monitors_iff.mp hm
    exact h p hp hn
  simp only [State.armWatch, State.onMonitor, hnot, if_false, Bool.false_eq_true]

/-- Of an operation on watches that touches those in one state alone, what it does to each. -/
theorem ite_index {α : Type} {p q : Prop} [Decidable p] [Decidable q] (x y : α) :
    (if p then if q then x else y else y) = if p ∧ q then x else y := by
  by_cases hp : p <;> simp [hp]

/-- Settles O50. -/
theorem watchesArmJudgeAndExpire : Obligations.WatchesArmJudgeAndExpire := by
  refine ⟨fun s plan wave hp hin hother => ?_, fun s row power time hp hnone => ?_, fun s plan wave p hp hin hplan hn => ?_,
    fun s row power time hp hplan => ?_, fun s k d x hp hx hd => ?_⟩
  · rw [exec_toMonitor hp rfl hin]
    exact congrArg _ (State.armWatch_other (s := s.arrive _) hother)
  · simp only [exec, execArrivalSample, State.event_powered hp, State.onMonitor, Monitor.arrival, hnone, Option.isSome_none,
      Bool.false_eq_true, if_false]
  · rw [exec_toMonitor hp rfl hin]
    refine congrArg _ ((State.armWatch_monitored (s := s.arrive _) (Monitor.monitors_iff.mpr ⟨p, hplan, hn⟩)).trans ?_)
    simp only [Monitor.onWatch, Watch.arm_eq, ite_index]
    rfl
  · have hexec : exec (.arrivalSample row power time) s = .next { s with monitor := { s.monitor with
        watches := s.monitor.watches.map fun w => if w.downwind = row then w.judge power time s.monitor.tau else w } } := by
      simp only [exec, execArrivalSample, State.event_powered hp, State.onMonitor, Monitor.arrival,
        Option.isSome_iff_ne_none.mpr hplan, if_true]
    refine ⟨_, hexec, rfl, List.length_map _, fun k w hk => ⟨fun hkept => ?_, fun th a hrow hs hth hle ha hat hlt => ?_⟩⟩
    · rw [List.getElem?_map, hk, Option.map_some]
      congr 1
      by_cases hrow : w.downwind = row
      · rw [if_pos hrow]
        rcases hkept with h | h
        · exact absurd hrow h
        · exact Watch.judge_kept h
      · exact if_neg hrow
    · rw [List.getElem?_map, hk, Option.map_some, if_pos hrow, Watch.judge_armed hs hth hle ha hat hlt]
  · simp only [exec, execWindowExpiry, State.event_powered hp, Monitor.windowOf, hx, Option.bind_some, hd, State.expire_running,
      State.onMonitor, Monitor.onWatch, Watch.windowExpired_eq, ite_index]
    rfl

/-! ### The end of a monitored plan -/

theorem State.planCompletedAtMonitor_other {n : Nat} (h : ∀ p, s.monitor.plan = some p → p.number ≠ n) :
    s.planCompletedAtMonitor n = s := by
  unfold State.planCompletedAtMonitor
  split
  · rfl
  · next p hp => exact if_neg (h p hp)

/-- The step of a trim by a vote, at its bounds (R153). -/
theorem votedTrim_eq (net : Int) (x : Nat) :
    votedTrim net x = if 0 < net ∧ x ≠ 128 then x + 1 else if net < 0 ∧ x ≠ 32 then x - 1 else x := by
  unfold votedTrim
  by_cases hpos : 0 < net
  · by_cases h128 : x = 128
    · simp [hpos, h128, Int.not_lt.mpr (Int.le_of_lt hpos)]
    · simp [hpos, h128]
  · by_cases hneg : net < 0
    · by_cases h32 : x = 32
      · simp [hpos, hneg, h32]
      · simp [hpos, hneg, h32]
    · simp [hpos, hneg]

theorem State.planCompletedAtMonitor_off {p : MonitoredPlan} (h : s.monitor.plan = some p) (hl : s.monitor.learning = false) :
    s.planCompletedAtMonitor p.number = s.onMonitor (Monitor.close p .complete s.now .off (s.monitor.watches.map Watch.complete)) := by
  simp [State.planCompletedAtMonitor, h, hl]

/-- The vote on a completed plan (R153). -/
theorem State.planCompletedAtMonitor_vote {p : MonitoredPlan} {ws : List Watch} {net : Int} {before after : Nat}
    (h : s.monitor.plan = some p) (hl : s.monitor.learning = true) (hws : ws = s.monitor.watches.map Watch.complete)
    (hn : net = voteNet ws) (hb : before = s.monitor.trim p.pair.sector)
    (ha : after = if p.pair.sector < s.wind.params.sectors then votedTrim net before else before) :
    s.planCompletedAtMonitor p.number = { s with
      monitor := { s.monitor with trims := s.monitor.trims.set 64 p.pair.sector after }.close p .complete s.now
        (.taken net before after) ws
      notices := if after = before then s.notices else s.notices ++ [.trimStepped p.pair.sector before after net p.number] } := by
  have hvoted : s.planCompletedAtMonitor p.number =
      (if after = before then id else State.notify (.trimStepped p.pair.sector before after net p.number))
        (s.onMonitor fun m =>
          { m with trims := m.trims.set 64 p.pair.sector after }.close p .complete s.now (.taken net before after) ws) := by
    unfold State.planCompletedAtMonitor
    simp only [h, if_true, hl, ← hws, ← hn, ← hb, ← ha]
    split <;> rfl
  rw [hvoted]
  split <;> rfl

/-- Settles O51. -/
theorem monitoredPlanEndsWithItsVote : Obligations.MonitoredPlanEndsWithItsVote := by
  refine ⟨fun s n c hp hc hin hother => ?_, fun s p hp hplan => ⟨fun hin => ?_, fun ws hin hws => ⟨fun hlearn => ?_,
    fun net before after hlearn hnet hbefore hafter => ?_⟩⟩⟩
  · rcases hc with rfl | rfl
    · rw [exec_toMonitor hp rfl hin]
      refine congrArg _ ?_
      change (s.arrive (.abortReport n)).onMonitor (Monitor.voidPlan n .aborted s.now) = _
      unfold State.onMonitor
      rw [Monitor.voidPlan_other (m := (s.arrive (.abortReport n)).monitor) hother]
      rfl
    · rw [exec_toMonitor hp rfl hin]
      exact congrArg _ (State.planCompletedAtMonitor_other (s := s.arrive _) hother)
  · rw [exec_toMonitor hp rfl hin]
    refine congrArg _ ?_
    change (s.arrive (.abortReport p.number)).onMonitor (Monitor.voidPlan p.number .aborted s.now) = _
    unfold State.onMonitor
    rw [Monitor.voidPlan_monitored (m := (s.arrive (.abortReport p.number)).monitor) hplan, Watch.void_eq]
    rfl
  · rw [exec_toMonitor hp rfl hin]
    refine congrArg _ ?_
    refine (State.planCompletedAtMonitor_off (s := s.arrive _) hplan hlearn).trans ?_
    rw [hws, ← Watch.complete_eq]
    rfl
  · have hvote := State.planCompletedAtMonitor_vote (s := s.arrive (.completionReport p.number)) (ws := ws) (net := net)
      (before := before) (after := after) hplan hlearn
      (hws.trans (by rw [Watch.complete_eq]; rfl)) hnet hbefore (by
        rw [hafter, votedTrim_eq]
        by_cases hsec : s.wind.params.sectors ≤ p.pair.sector
        · rw [if_pos hsec]
          exact (if_neg (Nat.not_lt.mpr hsec)).symm
        · rw [if_neg hsec]
          exact (if_pos (Nat.not_le.mp hsec)).symm)
    refine ⟨_, (exec_toMonitor hp rfl hin).trans (congrArg _ hvote), rfl, ?_, fun k hk => ?_, rfl⟩
    · exact Table.get_set_same ..
    · exact Table.get_set_other _ _ hk _

end Sys2Proof.Machine
end

/-! PROOFS. The Mode Controller: the discrete lines (O53), the unwind record (O54). -/

section
namespace Sys2Proof.Machine

variable {s t : State} {c x : Instr}

/-! ### The discrete lines -/

/-- The level at which a line is ACTIVE, by its edge (R172). -/
theorem activeLevel_eq (e : Edge) : activeLevel e = (match e with | .rising => .high | .falling => .low) := by
  cases e <;> rfl

/-- A line at a level is ACTIVE where it is enabled and the level is its active one (R172). -/
theorem lineIsActive_eq (c : LineConfig) (v : Level) :
    lineIsActive c v = (c.enabled && decide (v = (match c.edge with | .rising => .high | .falling => .low))) := by
  rw [← activeLevel_eq]
  rfl

/-- A line that takes a level keeps its configuration, and its state follows the level while it is enabled (R169). -/
theorem LineState.take_eq (l : LineState) (v : Level) : l.take v = ⟨l.config, v,
    if l.config.enabled = true then decide (v = (match l.config.edge with | .rising => .high | .falling => .low))
    else l.isActive⟩ := by
  rw [LineState.take, lineIsActive_eq]
  cases hen : l.config.enabled <;> rfl

/-- A level recorded at STORM, with the activation where the line comes to ACTIVE by it (R169, R170). -/
theorem State.lineChanged_storm {v : Level} (h : s.modes.storm.level ≠ v) :
    s.lineChanged .storm v =
      if (s.modes.storm.take v).isActive = true ∧ s.modes.storm.isActive = false then
        (s.onModes fun m => { m with storm := m.storm.take v }).stormActivated
      else s.onModes fun m => { m with storm := m.storm.take v } := by
  simp only [State.lineChanged, if_neg h]
  simp only [State.onModes, Bool.and_eq_true, Bool.not_eq_true']

/-- A change of state of GRIDHOLD is reported, and nothing where it stays (R171). -/
theorem State.reportGridhold_eq (was : Bool) (s : State) : s.reportGridhold was = { s with
    reports := s.reports ++ if s.modes.gridhold.isActive = was then [] else [.gridholdReport s.modes.gridhold.isActive] } := by
  unfold State.reportGridhold
  split
  · rw [List.append_nil]
  · rfl

theorem State.lineChanged_gridhold {v : Level} (h : s.modes.gridhold.level ≠ v) :
    s.lineChanged .gridhold v =
      (s.onModes fun m => { m with gridhold := m.gridhold.take v }).reportGridhold s.modes.gridhold.isActive := by
  simp only [State.lineChanged, if_neg h]

/-- A STORM activation writes nothing but the Mode Controller, its reports and its notice, and no line (R170). -/
theorem State.stormActivated_frame (s : State) :
    s.stormActivated = { s with
      modes := s.stormActivated.modes, reports := s.stormActivated.reports, notices := s.stormActivated.notices } ∧
    s.stormActivated.modes.storm = s.modes.storm ∧ s.stormActivated.modes.gridhold = s.modes.gridhold := by
  unfold State.stormActivated
  split <;> exact ⟨rfl, rfl, rfl⟩

theorem State.stormActivated_live (h : s.modes.mode = .live) : s.stormActivated = s.beginUnwind .storm := by
  rw [State.stormActivated, h]

theorem State.stormActivated_dry (h : s.modes.mode = .dry) : s.stormActivated = s.changeMode .storm .off none := by
  rw [State.stormActivated, h]

/-- In OFF and UNWIND a STORM activation writes the latest cause and nothing else (R170). -/
theorem State.stormActivated_rest (h : s.modes.mode = .off ∨ s.modes.mode = .unwind) :
    s.stormActivated = s.onModes fun m => { m with latest := ⟨.storm, s.now, m.mode, m.mode⟩ } := by
  rw [State.stormActivated]
  rcases h with h | h <;> rw [h]

/-- Settles O53. -/
theorem linesFollowTheirLevels : Obligations.LinesFollowTheirLevels := by
  refine ⟨fun s l v was now hp hwas hlevel hnow => ?_, fun s s0 h a b x y hs hx hy => ?_⟩
  · have hexec : exec (.lineLevelChange l v) s = .next (s.lineChanged l v) := State.event_powered hp
    rw [hexec]
    have htake : was.take v = ⟨was.config, v, now⟩ :=
      (LineState.take_eq was v).trans (congrArg (LineState.mk was.config v) hnow.symm)
    refine ⟨_, rfl, ?_⟩
    cases l with
    | storm =>
      obtain rfl : was = s.modes.storm := hwas
      rw [State.lineChanged_storm hlevel, htake]
      obtain ⟨hframe, hstorm, hgrid⟩ :=
        State.stormActivated_frame (s.onModes fun m => { m with storm := m.storm.take v })
      by_cases hact : now = true ∧ s.modes.storm.isActive = false
      · rw [if_pos hact]
        refine ⟨hframe, fun _ => ⟨hstorm.trans htake, hgrid, fun hno => ?_, fun _ _ => ⟨fun hm => ?_, fun hm => ?_,
          fun hm => ?_⟩⟩, fun hl => Line.noConfusion hl⟩
        · rw [hact.1, hact.2] at hno
          exact absurd hno (by decide)
        · rw [State.stormActivated_live (s := s.onModes fun m => { m with storm := m.storm.take v }) hm]
          have hnotice : ((s.onModes fun m => { m with storm := m.storm.take v }).beginUnwind .storm).notices =
            s.notices ++ [.modeChanged s.modes.mode .unwind .storm s.now none] := rfl
          have hlatest : ((s.onModes fun m => { m with storm := m.storm.take v }).beginUnwind .storm).modes.latest =
            ⟨.storm, s.now, s.modes.mode, .unwind⟩ := rfl
          rw [hm] at hnotice hlatest
          exact ⟨rfl, rfl, hlatest, rfl, rfl, hnotice⟩
        · rw [State.stormActivated_dry (s := s.onModes fun m => { m with storm := m.storm.take v }) hm]
          have hnotice : ((s.onModes fun m => { m with storm := m.storm.take v }).changeMode .storm .off none).notices =
            s.notices ++ [.modeChanged s.modes.mode .off .storm s.now none] := rfl
          have hlatest : ((s.onModes fun m => { m with storm := m.storm.take v }).changeMode .storm .off none).modes.latest =
            ⟨.storm, s.now, s.modes.mode, .off⟩ := rfl
          rw [hm] at hnotice hlatest
          exact ⟨rfl, rfl, hlatest, rfl, rfl, hnotice⟩
        · rw [State.stormActivated_rest (s := s.onModes fun m => { m with storm := m.storm.take v }) hm, ← htake]
          rfl
      · rw [if_neg hact]
        have hwrites : (s.onModes fun m => { m with storm := m.storm.take v }) =
            { s with modes := { s.modes with storm := ⟨s.modes.storm.config, v, now⟩ } } := by rw [← htake]; rfl
        rw [hwrites]
        exact ⟨rfl, fun _ => ⟨rfl, rfl, fun _ => rfl, fun h1 h2 => absurd ⟨h1, h2⟩ hact⟩, fun hl => Line.noConfusion hl⟩
    | gridhold =>
      obtain rfl : was = s.modes.gridhold := hwas
      rw [State.lineChanged_gridhold hlevel, State.reportGridhold_eq]
      have hwrites : (s.onModes fun m => { m with gridhold := m.gridhold.take v }) =
          { s with modes := { s.modes with gridhold := ⟨s.modes.gridhold.config, v, now⟩ } } := by rw [← htake]; rfl
      rw [hwrites]
      exact ⟨rfl, fun hl => Line.noConfusion hl, fun _ => rfl⟩
  · split
    · next hm => exact answers_of_atOnce rfl hs (if_pos hm)
    · next hm =>
      refine answers_of_atOnce rfl hs ?_
      have hset : s0.setLines a b = { s0 with
          modes := { s0.modes with
            storm := ⟨a, s0.modes.storm.level, x⟩, gridhold := ⟨b, s0.modes.gridhold.level, y⟩ }
          reports := s0.reports ++ (if y = s0.modes.gridhold.isActive then [] else [.gridholdReport y]) } := by
        have hx : x = lineIsActive a s0.modes.storm.level := hx.trans (lineIsActive_eq _ _).symm
        have hy : y = lineIsActive b s0.modes.gridhold.level := hy.trans (lineIsActive_eq _ _).symm
        rw [State.setLines, State.reportGridhold_eq, hx, hy]
        rfl
      rw [← hset]
      exact if_neg hm

/-! ### The unwind record -/

/-- A report of the Gate that is in its place is taken by the Mode Controller (R165, R166). -/
theorem exec_toModes (hp : s.powered = true) (hc : toModes c = true) (h : inPlace toModes c s.reports) :
    exec c s = .next ((s.arrive c).takeAtModes c) := by
  rw [exec_of_toModes hp hc, State.takeInOrder_of_inPlace h]

theorem State.takeAtModes_powered (c : Instr) (s : State) : (s.takeAtModes c).powered = s.powered := by
  unfold State.takeAtModes State.endTaken
  split
  · rfl
  · rfl
  · split <;> rfl
  · rfl

/-- The figures are written into a record, one that has ended having its CANCELLED count taken anew (R165). -/
theorem writeFigures_eq (plan n : Nat) (r : UnwindRecord) : writeFigures plan n r = { r with
    planAborted := plan, created := n
    cancelled := if r.endSecond = none then r.cancelled else n - (r.settled + r.failed + r.skipped) } := by
  cases h : r.endSecond <;> simp [writeFigures, cancelRest, h]

/-- A finish raises the count of its outcome by one and no other (R166). -/
theorem countFinish_eq (o : UrgentOutcome) (r : UnwindRecord) : countFinish o r = { r with
    settled := r.settled + (if o = .settled then 1 else 0)
    failed := r.failed + (if o = .failed then 1 else 0)
    skipped := r.skipped + (if o = .skipped then 1 else 0)
    cancelled := r.cancelled + (if o = .cancelled then 1 else 0) } := by
  cases o <;> rfl

/-- Settles O54. -/
theorem unwindIsCountedAndEnds : Obligations.UnwindIsCountedAndEnds := by
  refine ⟨fun s c x first mid hp hc hahead hx hfirst => ?_, fun s r hp hr => ⟨fun plan n hin => ?_, fun o hin => ?_,
    fun hin hm => ?_, fun e hin hm he => ?_⟩⟩
  · obtain ⟨l, hl, hnone⟩ := State.takeAtModes_reports x (s.arrive x)
    have hkept : ((s.arrive x).takeAtModes x).reports.filter toModes = (s.reports.erase x).filter toModes := by
      have hnil : l.filter toModes = [] := List.filter_eq_nil_iff.mpr fun y hy => by simp [hnone y hy]
      rw [hl, List.filter_append, hnil, List.append_nil]
      rfl
    obtain ⟨htaken, hsame⟩ :=
      exec_of_behind exec_of_toModes (State.takeAtModes_powered x _) hkept hp hc hahead hx hfirst
    exact ⟨_, htaken, ⟨l, hl.symm⟩, hsame⟩
  · rw [exec_toModes hp rfl hin]
    change Host.Outcome.next ((s.arrive (.unwindFigures plan n)).figuresTaken plan n) = _
    rw [State.figuresTaken, ← writeFigures_eq]
    have hmap : s.modes.unwindRecord.map (writeFigures plan n) = some (writeFigures plan n r) := by rw [hr]; rfl
    rw [← hmap]
    rfl
  · rw [exec_toModes hp rfl hin]
    change Host.Outcome.next ((s.arrive (.urgentFinishReport o)).finishTaken o) = _
    have hmap : s.modes.unwindRecord.map (countFinish o) = some (countFinish o r) := by rw [hr]; rfl
    rw [← countFinish_eq]
    by_cases hm : s.modes.mode = .unwind
    · rw [if_pos hm, ← hmap]
      exact congrArg (fun m => Host.Outcome.next { s.arrive (.urgentFinishReport o) with modes := m }) (if_pos hm)
    · rw [if_neg hm, ← hr]
      exact congrArg (fun m => Host.Outcome.next { s.arrive (.urgentFinishReport o) with modes := m }) (if_neg hm)
  · rw [exec_toModes hp rfl hin]
    exact congrArg _ (if_neg hm)
  · rw [exec_toModes hp rfl hin]
    have hend : (s.arrive .unwindEnd).takeAtModes .unwindEnd =
        (s.arrive .unwindEnd).endUnwind .unwindEnd (concludeUnwind s.now) := if_pos hm
    have hmap : s.modes.unwindRecord.map (concludeUnwind s.now) = some e := by rw [hr, he]; rfl
    rw [hend, State.endUnwind, State.changeMode_eq]
    rw [← hmap, ← hm]
    rfl

end Sys2Proof.Machine
end

/-! PROOFS. The release schedule (O36) and the segments of a move (O37). -/

section
namespace Sys2Proof.Machine

variable {i : BuildInputs}

/-! ### The schedule -/

theorem clampNat_eq_max_min {lo hi : Nat} (h : lo ≤ hi) (x : Nat) : clampNat lo hi x = max lo (min hi x) := by
  unfold clampNat
  split
  · omega
  · split <;> omega

/-- A wave's delay is its raw delay, half up, clamped to gap_min..gap_max (R90, R91). -/
theorem waveDelay_eq (h : i.gapMin ≤ i.gapMax) (y : Nat) : waveDelay y i = max i.gapMin (min i.gapMax
    ((2 * (y * 10 * i.trim) + max i.speed i.floor * 64) / (2 * (max i.speed i.floor * 64)))) :=
  clampNat_eq_max_min h _

theorem waveDelay_bounds (h : i.gapMin ≤ i.gapMax) (y : Nat) : i.gapMin ≤ waveDelay y i ∧ waveDelay y i ≤ i.gapMax := by
  rw [waveDelay_eq h]
  omega

theorem laterSlots_rows (i : BuildInputs) (before : Nat) {rows spacings : List Nat} (h : spacings.length = rows.length) :
    (laterSlots i before rows spacings).map (·.row) = rows := by
  induction rows generalizing before spacings with
  | nil => rfl
  | cons r rows ih => cases spacings with
    | nil => cases h
    | cons y spacings => exact congrArg (r :: ·) (ih _ (Nat.succ.inj h))

/-- Each later wave is released its delay after the one before it (R91). -/
theorem laterSlots_follow {prev a b : Slot} {rows spacings : List Nat} {k y : Nat}
    (ha : (prev :: laterSlots i prev.offset rows spacings)[k]? = some a)
    (hb : (prev :: laterSlots i prev.offset rows spacings)[k + 1]? = some b) (hy : spacings[k]? = some y) :
    b.delay = some (waveDelay y i) ∧ b.offset = a.offset + waveDelay y i := by
  induction k generalizing prev rows spacings with
  | zero => cases spacings with
    | nil => cases hy
    | cons z spacings => cases rows with
      | nil => cases hb
      | cons r rows =>
        cases ha
        cases hb
        cases hy
        exact ⟨rfl, rfl⟩
  | succ k ih => cases spacings with
    | nil => cases hy
    | cons z spacings => cases rows with
      | nil => cases ha
      | cons r rows => exact ih (prev := ⟨r, prev.offset + waveDelay z i, some (waveDelay z i)⟩) ha hb hy

theorem laterSlots_offset_le (h : i.gapMin ≤ i.gapMax) {before : Nat} {rows spacings : List Nat} {w : Slot}
    (hw : w ∈ laterSlots i before rows spacings) : w.offset ≤ before + rows.length * i.gapMax := by
  induction rows generalizing before spacings with
  | nil => cases hw
  | cons r rows ih => cases spacings with
    | nil => cases hw
    | cons z spacings =>
      have hz := (waveDelay_bounds h z).2
      rw [List.length_cons, Nat.succ_mul]
      rcases List.mem_cons.mp hw with rfl | hw
      · change before + waveDelay z i ≤ _
        omega
      · have := ih hw
        omega

/-- Settles O36. -/
theorem scheduleGapsStayInRange : Obligations.ScheduleGapsStayInRange := by
  intro i x hgap hlen
  obtain ⟨r, rows, horder⟩ : ∃ r rows, x.order = r :: rows := List.exists_cons_of_length_eq_add_one hlen.symm
  have hsched : schedule i x = ⟨r, 0, none⟩ :: laterSlots i 0 rows x.spacings := by rw [schedule, horder]
  rw [horder, List.length_cons] at hlen
  rw [hsched, horder]
  refine ⟨?_, fun w hw => ?_, fun k a b y ha hb hy => ?_, fun hrows hmax w hw => ?_⟩
  · exact congrArg (r :: ·) (laterSlots_rows i 0 (Nat.succ.inj hlen))
  · cases hw
    exact ⟨rfl, rfl⟩
  · obtain ⟨hdelay, hoffset⟩ := laterSlots_follow (prev := ⟨r, 0, none⟩) ha hb hy
    obtain ⟨hmin, hmax⟩ := waveDelay_bounds hgap y
    exact ⟨_, hdelay, hoffset, hmin, hmax, waveDelay_eq hgap y⟩
  · rw [List.length_cons] at hrows
    rcases List.mem_cons.mp hw with rfl | hw
    · exact Nat.zero_le _
    · calc w.offset ≤ 0 + rows.length * i.gapMax := laterSlots_offset_le hgap hw
        _ ≤ 0 + 15 * 900 := Nat.add_le_add_left (Nat.mul_le_mul (by omega) hmax) 0
        _ = 13500 := rfl

/-! ### Segments -/

theorem signedStep_natAbs (m : Nat) (d : Int) : (signedStep m d).natAbs = min m d.natAbs := by
  unfold signedStep
  dsimp only
  split <;> omega

/-- A segment takes its length off the distance that remains (R98). -/
theorem sub_signedStep_natAbs (m : Nat) (d : Int) : (d - signedStep m d).natAbs = d.natAbs - min m d.natAbs := by
  unfold signedStep
  dsimp only
  split <;> omega

/-- After `k` segments the distance that remains is the first one less `k` full segments (R98). -/
theorem remaining_after_segments (m : Nat) (source target : Int) (k : Nat) :
    (target - Nat.repeat (fun c : Int => c + signedStep m (target - c)) k source).natAbs =
      (target - source).natAbs - k * m := by
  induction k with
  | zero => rw [Nat.zero_mul, Nat.sub_zero]; rfl
  | succ k ih =>
    rw [Nat.repeat, ← Int.sub_sub, sub_signedStep_natAbs, ih, Nat.succ_mul]
    omega

/-- The target is reached after `k` segments just where `k` full segments span the distance (R98). -/
theorem reached_iff (m : Nat) (source target : Int) (k : Nat) :
    Nat.repeat (fun c : Int => c + signedStep m (target - c)) k source = target ↔ (target - source).natAbs ≤ k * m := by
  rw [← Nat.sub_eq_zero_iff_le, ← remaining_after_segments]
  omega

/-- Settles O37. -/
theorem segmentsReachTheTarget : Obligations.SegmentsReachTheTarget := by
  refine fun m source target hm => ⟨fun d => ⟨signedStep_natAbs m d, sub_signedStep_natAbs m d⟩, ?_, fun k hk => ?_⟩
  · rw [reached_iff]
    have hceil := Nat.div_add_mod ((target - source).natAbs + m - 1) m
    have hmod := Nat.mod_lt ((target - source).natAbs + m - 1) hm
    rw [Nat.mul_comm] at hceil
    omega
  · rw [ne_eq, reached_iff]
    have hfull := (Nat.le_div_iff_mul_le hm).mp (Nat.succ_le_of_lt hk)
    rw [Nat.succ_mul] at hfull
    omega

end Sys2Proof.Machine
end

/-! PROOFS. The Wind Estimator at a reference sample (O24). -/

section
namespace Sys2Proof.Machine

variable {s t : State} {w : Wind} {n v c : Nat} {o : Option Nat} {p : Pair} {steered : Option Pair}

/-! ### The estimate -/

/-- A filter step has the sign of its difference, and is that difference times its gain over 256, half away from zero (R46,
R48). -/
theorem filterStep_eq (d : Int) (g : Nat) : filterStep d g =
    if d < 0 then -(((2 * d.natAbs * g + 256) / 512 : Nat) : Int) else ((2 * d.natAbs * g + 256) / 512 : Nat) := by
  have hstep : filterStep (d.natAbs : Int) g = ((2 * d.natAbs * g + 256) / 512 : Nat) := by
    rw [filterStep, halfAway256, Int.natAbs_mul, Int.natAbs_natCast, Int.natAbs_natCast, Nat.mul_assoc]
    exact if_neg (Int.not_lt.mpr (Int.mul_nonneg (Int.natCast_nonneg _) (Int.natCast_nonneg _)))
  split
  · rw [← hstep, filterStep, filterStep, ← halfAway256_neg]
    congr 1
    rw [← Int.neg_mul]
    congr 1
    omega
  · rw [← hstep, Int.natAbs_of_nonneg (by omega)]

/-- The wrapped difference of two directions is the one of -1799..1800 that is congruent to their difference (R46). -/
theorem eq_wrapDiff {a b : Nat} {x : Int} (ha : a < 3600) (hb : b < 3600) (hlow : -1799 ≤ x) (hhigh : x ≤ 1800)
    (hx : (x - ((a : Int) - b)) % 3600 = 0) : x = wrapDiff a b := by
  unfold wrapDiff
  dsimp only
  split <;> (try split) <;> omega

theorem Wind.moveDirection_within (h : (wrapDiff c w.direction).natAbs ≤ w.params.outlierLimit) :
    w.moveDirection c = { w with
      direction := into3600 ((w.direction : Int) + filterStep (wrapDiff c w.direction) w.params.alpha), outlierRun := 0 } :=
  if_neg (Nat.not_lt.mpr h)

theorem Wind.moveDirection_counted (h : w.params.outlierLimit < (wrapDiff c w.direction).natAbs) (hrun : w.outlierRun < 7) :
    w.moveDirection c = { w with outlierRun := w.outlierRun + 1 } :=
  (if_pos h).trans (if_neg (by omega))

theorem Wind.moveDirection_reseeded (h : w.params.outlierLimit < (wrapDiff c w.direction).natAbs) (hrun : w.outlierRun = 7) :
    w.moveDirection c = { w with direction := c, outlierRun := 0 } :=
  (if_pos h).trans (if_pos (by omega))

theorem Wind.accept_unused (h : w.valid = false) : w.accept n none v = w := by
  rw [Wind.accept, h]
  rfl

theorem Wind.accept_seeded (h : w.valid = false) (d : Nat) : w.accept n (some d) v =
    { w with direction := d, speed := v, outlierRun := 0, valid := true, freshness := some (n + w.params.wRef) } := by
  rw [Wind.accept, h]
  rfl

/-- On a VALID estimate a sample without a usable direction moves the speed alone (R46, R48). -/
theorem Wind.accept_undirected (h : w.valid = true) :
    w.accept n none v = { w.moveSpeed v with freshness := some (n + w.params.wRef) } := by
  rw [Wind.accept, if_pos h]

theorem Wind.moveDirection_frame (d : Nat) (w : Wind) : w.moveDirection d = { w with
    direction := (w.moveDirection d).direction, outlierRun := (w.moveDirection d).outlierRun } := by
  unfold Wind.moveDirection
  dsimp only
  repeat' split
  all_goals rfl

theorem Wind.accept_directed (h : w.valid = true) (d : Nat) : w.accept n (some d) v = { w.moveSpeed v with
    direction := (w.moveDirection d).direction, outlierRun := (w.moveDirection d).outlierRun
    freshness := some (n + w.params.wRef) } := by
  rw [Wind.accept, if_pos h]
  dsimp only
  rw [Wind.moveDirection_frame]
  rfl

/-- A sample that leaves the estimate VALID moves a VALID one's speed by its filter, and restarts the freshness timer (R48, R50). -/
theorem Wind.accept_valid (h : w.valid = true) (o : Option Nat) (v : Nat) :
    (w.accept n o v).valid = true ∧ (w.accept n o v).freshness = some (n + w.params.wRef) ∧
      (w.accept n o v).speed = (w.moveSpeed v).speed := by
  cases o with
  | none => rw [Wind.accept_undirected h]; exact ⟨h, rfl, rfl⟩
  | some d => rw [Wind.accept_directed h]; exact ⟨h, rfl, rfl⟩

/-- The filtered speed, whose step never takes it below 0 (R48). -/
theorem Wind.moveSpeed_speed (h : w.params.beta ≤ 255) {k : Nat}
    (hk : k = (2 * ((c : Int) - w.speed).natAbs * w.params.beta + 256) / 512) :
    ((w.moveSpeed c).speed : Int) = w.speed + (if c < w.speed then -(k : Int) else k) := by
  obtain ⟨hup, hdown⟩ := filterStep_between (d := (c : Int) - w.speed) h
  have hstep := filterStep_eq ((c : Int) - w.speed) w.params.beta
  rw [← hk] at hstep
  have hsign : (if (c : Int) - w.speed < 0 then -(k : Int) else k) = if c < w.speed then -(k : Int) else k := by
    split <;> split <;> omega
  rw [← hsign, ← hstep]
  simp only [Wind.moveSpeed]
  omega

/-! ### The candidates -/

theorem nextSector_eq (q : WindParams) (e k : Nat) : nextSector q e (some k) =
    if rawSector q.sectors e ≠ k ∧ q.hysteresis ≤ edgeDistance q.sectors e k then rawSector q.sectors e else k := by
  unfold nextSector
  dsimp only
  split
  · next h => rw [if_neg fun hne => hne.1 h]
  · next h =>
    split
    · next hfar => rw [if_pos ⟨h, hfar⟩]
    · next hfar => rw [if_neg fun hne => hfar hne.2]

/-- The hysteresis holds against the nearer of the two edges just where it holds against both (R52). -/
theorem le_edgeDistance_iff {sectors dir k x : Nat} : x ≤ edgeDistance sectors dir k ↔
    ∀ e, e = (k * sectorWidth sectors + 3600 - sectorWidth sectors / 2) % 3600 ∨
      e = (k * sectorWidth sectors + sectorWidth sectors / 2) % 3600 →
        x ≤ min ((dir : Int) - e).natAbs (3600 - ((dir : Int) - e).natAbs) := by
  rw [edgeDistance, Nat.le_min]
  refine ⟨fun ⟨hbefore, hafter⟩ e he => ?_, fun h => ⟨h _ (.inl rfl), h _ (.inr rfl)⟩⟩
  rcases he with rfl | rfl
  · exact hbefore
  · exact hafter

theorem and_decide_iff {P Q : Prop} [Decidable P] [Decidable Q] : (decide P && decide Q) = true ↔ P ∧ Q := by
  rw [Bool.and_eq_true, decide_eq_true_iff, decide_eq_true_iff]

/-- The last of the first `n` numbers that satisfy a test. -/
theorem getLast?_filter_range {f : Nat → Bool} {n k : Nat} (hk : k < n) (hf : f k = true)
    (hlast : ∀ j, k < j → j < n → f j = false) : ((List.range n).filter f).getLast? = some k := by
  induction n with
  | zero => cases hk
  | succ n ih =>
    rw [List.range_succ, List.filter_append]
    rcases Nat.lt_succ_iff_lt_or_eq.mp hk with hlt | rfl
    · rw [List.filter_cons_of_neg (by simp [hlast n hlt (Nat.lt_succ_self n)]), List.filter_nil, List.append_nil]
      exact ih hlt fun j hj hjn => hlast j hj (Nat.lt_succ_of_lt hjn)
    · rw [List.filter_cons_of_pos hf, List.filter_nil, List.getLast?_concat]

theorem bandAbove_eq_some {q : WindParams} {b k : Nat} (hb : b < k) (hk : k < 8) (hclear : q.thresholds.getD (k - 1) 0 + q.hs ≤ v)
    (hlast : ∀ j, k < j → j < 8 → v < q.thresholds.getD (j - 1) 0 + q.hs) : bandAbove q v b = some k :=
  getLast?_filter_range hk (and_decide_iff.mpr ⟨hb, hclear⟩) fun j hj hj8 =>
    Bool.eq_false_iff.mpr fun h => absurd (and_decide_iff.mp h).2 (Nat.not_le.mpr (hlast j hj hj8))

theorem bandAbove_eq_none {q : WindParams} {b : Nat} (h : ∀ k, b < k → k < 8 → v < q.thresholds.getD (k - 1) 0 + q.hs) :
    bandAbove q v b = none := by
  rw [bandAbove, List.getLast?_eq_none_iff, List.filter_eq_nil_iff]
  intro k hk hpass
  obtain ⟨hb, hclear⟩ := and_decide_iff.mp hpass
  exact absurd hclear (Nat.not_le.mpr (h k hb (List.mem_range.mp hk)))

theorem bandBelow_eq_some {q : WindParams} {b k : Nat} (hb : k < b) (hk : k < 8) (hclear : v + q.hs < q.thresholds.getD k 0)
    (hfirst : ∀ j, j < k → q.thresholds.getD j 0 ≤ v + q.hs) : bandBelow q v b = some k := by
  rw [bandBelow, List.head?_filter, List.find?_range_eq_some]
  refine ⟨and_decide_iff.mpr ⟨hb, hclear⟩, List.mem_range.mpr hk, fun j hj => ?_⟩
  rw [Bool.not_eq_true', Bool.eq_false_iff]
  exact fun h => absurd (and_decide_iff.mp h).2 (Nat.not_lt.mpr (hfirst j hj))

theorem bandBelow_eq_none {q : WindParams} {b : Nat} (h : ∀ k, k < b → k < 8 → q.thresholds.getD k 0 ≤ v + q.hs) :
    bandBelow q v b = none := by
  rw [bandBelow, List.head?_filter, List.find?_eq_none]
  intro k hk hpass
  obtain ⟨hb, hclear⟩ := and_decide_iff.mp hpass
  exact absurd hclear (Nat.not_lt.mpr (h k hb (List.mem_range.mp hk)))

theorem nextBand_eq (q : WindParams) (v b : Nat) : nextBand q v (some b) = ((bandAbove q v b).or (bandBelow q v b)).getD b := rfl

/-! ### The arrival of a sample -/

/-- The Estimator's state once an accepted sample has set `u`: where that is VALID the candidates are set, and in LIVE and DRY the
dwell is evaluated (R41). -/
def Wind.afterAccept (steered : Option Pair) (n : Nat) (u : Wind) : Wind :=
  if u.valid then (if steering u.modeIn then u.quantize.evaluateDwell steered n else u.quantize) else u

/-- The Estimator with a reference sample noted as the last one (R41). -/
def Wind.noted (r : ReferenceArrival) (w : Wind) : Wind := { w with lastReference := some (r.turbine, r.time) }

/-- A sample with a speed is noted and accepted (R41). -/
theorem Wind.arrival_eq {r : ReferenceArrival} {raw : Nat} (h : r.speed = some raw) (steered : Option Pair) (n : Nat) (w : Wind) :
    w.arrival r steered n = ((w.noted r).accept n
      (if 10 ≤ correctedSpeed raw r.gain then r.direction.map (correctedDirection · r.offset) else none)
      (correctedSpeed raw r.gain)).afterAccept steered n := by
  rw [Wind.arrival, h]
  rfl

/-- Estimate, timer and record stand as the acceptance leaves them. -/
theorem Wind.afterAccept_frame (steered : Option Pair) (n : Nat) (u : Wind) : u.afterAccept steered n = { u with
    candidateSector := (u.afterAccept steered n).candidateSector, candidateBand := (u.afterAccept steered n).candidateBand
    dwellTimer := (u.afterAccept steered n).dwellTimer, dwellPair := (u.afterAccept steered n).dwellPair } := by
  unfold Wind.afterAccept
  split
  · split
    · rw [Wind.evaluateDwell_frame]
      rfl
    · rfl
  · rfl

theorem Wind.afterAccept_invalid {u : Wind} (h : u.valid = false) : u.afterAccept steered n = u :=
  if_neg (by simp [h])

theorem Wind.afterAccept_candidates {u : Wind} (h : u.valid = true) :
    (u.afterAccept steered n).candidateSector = some (nextSector u.params u.direction u.candidateSector) ∧
      (u.afterAccept steered n).candidateBand = some (nextBand u.params u.speed u.candidateBand) := by
  rw [Wind.afterAccept, if_pos h]
  split
  · rw [Wind.evaluateDwell_frame]
    exact ⟨rfl, rfl⟩
  · exact ⟨rfl, rfl⟩

theorem Wind.afterAccept_rest {u : Wind} (hm : steering u.modeIn = false) :
    (u.afterAccept steered n).dwellTimer = u.dwellTimer ∧ (u.afterAccept steered n).dwellPair = u.dwellPair := by
  rw [Wind.afterAccept, hm]
  split <;> exact ⟨rfl, rfl⟩

/-- In LIVE and DRY the dwell is evaluated for the candidate pair that the sample leaves (R56). -/
theorem Wind.afterAccept_steering {u : Wind} (hv : u.valid = true) (hm : steering u.modeIn = true)
    (hs : (u.afterAccept steered n).candidateSector = some p.sector) (hb : (u.afterAccept steered n).candidateBand = some p.band) :
    u.afterAccept steered n = u.quantize.evaluateDwell steered n ∧ u.quantize.candidate = some p := by
  obtain ⟨hsector, hband⟩ := Wind.afterAccept_candidates (steered := steered) (n := n) hv
  refine ⟨by rw [Wind.afterAccept, if_pos hv, if_pos hm], ?_⟩
  have hs : u.quantize.candidateSector = some p.sector := hsector.symm.trans hs
  have hb : u.quantize.candidateBand = some p.band := hband.symm.trans hb
  rw [Wind.candidate, hs, hb]

theorem Wind.evaluateDwell_steered (h : w.candidate = some p) (hp : steered = some p) : w.evaluateDwell steered n = w.clearDwell := by
  rw [Wind.evaluateDwell, h]
  exact if_pos hp

theorem Wind.evaluateDwell_kept {st : Bool} (h : w.candidate = some p) (hp : steered ≠ some p) (hd : w.dwellPair = some ⟨p, st⟩) :
    w.evaluateDwell steered n = w := by
  rw [Wind.evaluateDwell, h]
  exact (if_neg hp).trans (if_pos (by rw [hd]; rfl))

theorem Wind.evaluateDwell_started (h : w.candidate = some p) (hp : steered ≠ some p) (hd : ∀ st, w.dwellPair ≠ some ⟨p, st⟩) :
    w.evaluateDwell steered n = { w with dwellTimer := some (n + w.params.dwell), dwellPair := some ⟨p, false⟩ } := by
  rw [Wind.evaluateDwell, h]
  refine (if_neg hp).trans (if_neg fun he => ?_)
  obtain ⟨d, hpair, rfl⟩ := Option.map_eq_some_iff.mp he
  exact hd d.spent hpair

/-- A sample touches neither the dwell timer nor the reference record by its acceptance (R45-R48). -/
theorem Wind.accept_rest (n : Nat) (o : Option Nat) (v : Nat) (w : Wind) :
    (w.accept n o v).dwellTimer = w.dwellTimer ∧ (w.accept n o v).lastReference = w.lastReference := by
  by_cases h : w.valid = true
  · cases o with
    | none => rw [Wind.accept_undirected h]; exact ⟨rfl, rfl⟩
    | some d => rw [Wind.accept_directed h]; exact ⟨rfl, rfl⟩
  · rw [Bool.not_eq_true] at h
    cases o with
    | none => rw [Wind.accept_unused h]; exact ⟨rfl, rfl⟩
    | some d => rw [Wind.accept_seeded h]; exact ⟨rfl, rfl⟩

/-- What a usable direction makes of a VALID estimate's direction (R46, R47). -/
theorem Wind.moveDirection_cases {d k : Nat} {x : Int} (hd : d < 3600) (hw : w.direction < 3600) (hlow : -1799 ≤ x)
    (hhigh : x ≤ 1800) (hx : (x - ((d : Int) - w.direction)) % 3600 = 0)
    (hk : k = (2 * x.natAbs * w.params.alpha + 256) / 512) :
    (x.natAbs ≤ w.params.outlierLimit → (w.moveDirection d).outlierRun = 0 ∧
      ((w.moveDirection d).direction : Int) = (w.direction + (if x < 0 then -(k : Int) else k)) % 3600) ∧
    (w.params.outlierLimit < x.natAbs → w.outlierRun < 7 →
      (w.moveDirection d).direction = w.direction ∧ (w.moveDirection d).outlierRun = w.outlierRun + 1) ∧
    (w.params.outlierLimit < x.natAbs → w.outlierRun = 7 →
      (w.moveDirection d).direction = d ∧ (w.moveDirection d).outlierRun = 0) := by
  have hwrap := eq_wrapDiff hd hw hlow hhigh hx
  refine ⟨fun hin => ?_, fun hout hrun => ?_, fun hout hrun => ?_⟩
  · rw [hwrap] at hin
    rw [Wind.moveDirection_within hin, ← hwrap, filterStep_eq, ← hk]
    exact ⟨rfl, Int.toNat_of_nonneg (Int.emod_nonneg _ (by decide))⟩
  · rw [Wind.moveDirection_counted (hwrap ▸ hout) hrun]
    exact ⟨rfl, rfl⟩
  · rw [Wind.moveDirection_reseeded (hwrap ▸ hout) hrun]
    exact ⟨rfl, rfl⟩

/-- The candidate sector follows the raw sector once the direction is far enough past both edges (R52). -/
theorem nextSector_follows (q : WindParams) (e k : Nat) {far : Prop} (hfar : far ↔ q.hysteresis ≤ edgeDistance q.sectors e k) :
    (rawSector q.sectors e = k → nextSector q e (some k) = k) ∧
    (rawSector q.sectors e ≠ k → far → nextSector q e (some k) = rawSector q.sectors e) ∧
    (rawSector q.sectors e ≠ k → ¬ far → nextSector q e (some k) = k) := by
  rw [nextSector_eq, hfar]
  exact ⟨fun h => if_neg fun hne => hne.1 h, fun h hf => if_pos ⟨h, hf⟩, fun _ hf => if_neg fun hne => hf hne.2⟩

/-- The candidate band rises to the largest band that the speed clears, falls to the smallest below which it stands, and otherwise
stays (R53). -/
theorem nextBand_follows (q : WindParams) (v b : Nat) :
    (∀ k, b < k → k < 8 → q.thresholds.getD (k - 1) 0 + q.hs ≤ v →
      (∀ j, k < j → j < 8 → v < q.thresholds.getD (j - 1) 0 + q.hs) → nextBand q v (some b) = k) ∧
    ((∀ k, b < k → k < 8 → v < q.thresholds.getD (k - 1) 0 + q.hs) →
      (∀ k, k < b → k < 8 → v + q.hs < q.thresholds.getD k 0 →
        (∀ j, j < k → q.thresholds.getD j 0 ≤ v + q.hs) → nextBand q v (some b) = k) ∧
      ((∀ k, k < b → k < 8 → q.thresholds.getD k 0 ≤ v + q.hs) → nextBand q v (some b) = b)) := by
  rw [nextBand_eq]
  refine ⟨fun k hb hk hclear hlast => ?_, fun hnone => ⟨fun k hb hk hclear hfirst => ?_, fun hbelow => ?_⟩⟩
  · rw [bandAbove_eq_some hb hk hclear hlast]
    rfl
  · rw [bandAbove_eq_none hnone, bandBelow_eq_some hb hk hclear hfirst]
    rfl
  · rw [bandAbove_eq_none hnone, bandBelow_eq_none hbelow]
    rfl

/-- The dwell after a sample that leaves the estimate VALID (R56). -/
theorem Wind.afterAccept_dwell {u : Wind} (hv : u.valid = true) :
    (¬ inSteering u.modeIn →
      (u.afterAccept steered n).dwellTimer = u.dwellTimer ∧ (u.afterAccept steered n).dwellPair = u.dwellPair) ∧
    (∀ p : Pair, inSteering u.modeIn → (u.afterAccept steered n).candidateSector = some p.sector →
      (u.afterAccept steered n).candidateBand = some p.band →
      (steered = some p → (u.afterAccept steered n).dwellTimer = none ∧ (u.afterAccept steered n).dwellPair = none) ∧
      (∀ st, steered ≠ some p → u.dwellPair = some ⟨p, st⟩ →
        (u.afterAccept steered n).dwellTimer = u.dwellTimer ∧ (u.afterAccept steered n).dwellPair = u.dwellPair) ∧
      (steered ≠ some p → (∀ st, u.dwellPair ≠ some ⟨p, st⟩) →
        (u.afterAccept steered n).dwellTimer = some (n + u.params.dwell) ∧
        (u.afterAccept steered n).dwellPair = some ⟨p, false⟩)) := by
  refine ⟨fun hm => ?_, fun p hm hs hb => ?_⟩
  · rw [inSteering_iff, Bool.not_eq_true] at hm
    exact Wind.afterAccept_rest hm
  · obtain ⟨he, hc⟩ := Wind.afterAccept_steering hv (inSteering_iff.mp hm) hs hb
    rw [he]
    refine ⟨fun hp => ?_, fun st hp hd => ?_, fun hp hd => ?_⟩
    · rw [Wind.evaluateDwell_steered hc hp]
      exact ⟨rfl, rfl⟩
    · rw [Wind.evaluateDwell_kept hc hp hd]
      exact ⟨rfl, rfl⟩
    · rw [Wind.evaluateDwell_started hc hp hd]
      exact ⟨rfl, rfl⟩

/-- Settles O24. -/
theorem referenceSampleMovesTheEstimate : Obligations.ReferenceSampleMovesTheEstimate := by
  intro s r hp
  have hexec : exec (.referenceSample r) s = .next (s.onWind (Wind.arrival r s.gate.steered s.clock)) := State.event_powered hp
  refine ⟨fun hnone => ?_, fun raw c hraw hc hrange => ?_⟩
  · rw [hexec]
    unfold State.onWind Wind.arrival
    rw [hnone]
  obtain ⟨hdir, -, hbeta⟩ := hrange
  have hspeed : correctedSpeed raw r.gain = c := by rw [hc, Nat.min_comm]; rfl
  obtain ⟨o, ho⟩ : ∃ o, o = if 10 ≤ c then r.direction.map (correctedDirection · r.offset) else none := ⟨_, rfl⟩
  obtain ⟨u, hu⟩ : ∃ u, u = (s.wind.noted r).accept s.clock o c := ⟨_, rfl⟩
  obtain ⟨x, hx⟩ : ∃ x, x = u.afterAccept s.gate.steered s.clock := ⟨_, rfl⟩
  have harrival : s.wind.arrival r s.gate.steered s.clock = x := by rw [Wind.arrival_eq hraw, hspeed, ← ho, ← hu, ← hx]
  have hframe := Wind.afterAccept_frame s.gate.steered s.clock u
  rw [← hx] at hframe
  obtain ⟨hparams, hmode, hsector, hband, hpair, -⟩ := Wind.accept_frame s.clock o c (s.wind.noted r)
  obtain ⟨htimer, hlast⟩ := Wind.accept_rest s.clock o c (s.wind.noted r)
  rw [← hu] at hparams hmode hsector hband hpair htimer hlast
  have hxdir : x.direction = u.direction := by rw [hframe]
  have hxspeed : x.speed = u.speed := by rw [hframe]
  have hxrun : x.outlierRun = u.outlierRun := by rw [hframe]
  have hunused : (c < 10 ∨ r.direction = none) → o = none := by
    rintro (hlow | hnone)
    · rw [ho, if_neg (Nat.not_le.mpr hlow)]
    · rw [ho, hnone, Option.map_none, ite_self]
  have hused : ∀ a d : Nat, r.direction = some a → 10 ≤ c → (d : Int) = ((a : Int) + r.offset) % 3600 → o = some d := by
    intro a d ha h10 hd
    rw [ho, if_pos h10, ha, Option.map_some, correctedDirection, into3600, ← hd, Int.toNat_natCast]
  refine ⟨s.onWind (Wind.arrival r s.gate.steered s.clock), hexec, rfl, ?_⟩
  rw [State.onWind_wind, harrival]
  refine ⟨(show x.lastReference = u.lastReference by rw [hframe]).trans hlast, (show x.params = u.params by rw [hframe]).trans hparams,
    (show x.modeIn = u.modeIn by rw [hframe]).trans hmode, fun hv hno => ?_, fun a d ha h10 hd => ⟨fun hv => ?_, fun y k hv hlow hhigh hy hk => ?_⟩,
    fun hv hno => ?_, fun k hv hk => ?_, fun hacc => ?_⟩
  · rw [hunused hno, Wind.accept_unused (w := s.wind.noted r) hv] at hu
    rw [hx, Wind.afterAccept_invalid (by rw [hu]; exact hv), hu]
    rfl
  · rw [hused a d ha h10 hd, Wind.accept_seeded (w := s.wind.noted r) hv] at hu
    rw [hxdir, hxspeed, hxrun, hu]
    exact ⟨rfl, rfl, rfl⟩
  · rw [hused a d ha h10 hd, Wind.accept_directed (w := s.wind.noted r) hv] at hu
    rw [hxdir, hxrun, hu]
    exact Wind.moveDirection_cases (w := s.wind.noted r) (by omega) hdir hlow hhigh hy hk
  · rw [hunused hno, Wind.accept_undirected (w := s.wind.noted r) hv] at hu
    rw [hxdir, hxrun, hu]
    exact ⟨rfl, rfl⟩
  · obtain ⟨-, -, hmoved⟩ := Wind.accept_valid (w := s.wind.noted r) (n := s.clock) hv o c
    rw [hxspeed, hu, hmoved]
    exact Wind.moveSpeed_speed (w := s.wind.noted r) hbeta hk
  · have haccepted : u.valid = true ∧ u.freshness = some (s.clock + s.wind.params.wRef) := by
      by_cases hv : s.wind.valid = true
      · obtain ⟨hvalid, hfresh, -⟩ :=
          Wind.accept_valid (w := s.wind.noted r) (n := s.clock) hv o c
        rw [hu]
        exact ⟨hvalid, hfresh⟩
      · obtain ⟨h10, hne⟩ := hacc.resolve_left hv
        obtain ⟨a, ha⟩ := Option.ne_none_iff_exists'.mp hne
        rw [ho, if_pos h10, ha, Option.map_some, Wind.accept_seeded (w := s.wind.noted r) (Bool.not_eq_true _ ▸ hv)] at hu
        rw [hu]
        exact ⟨rfl, rfl⟩
    obtain ⟨hvalid, hfresh⟩ := haccepted
    obtain ⟨hnextSector, hnextBand⟩ := Wind.afterAccept_candidates (steered := s.gate.steered) (n := s.clock) hvalid
    have hdwell := Wind.afterAccept_dwell (steered := s.gate.steered) (n := s.clock) hvalid
    rw [← hx] at hnextSector hnextBand hdwell
    rw [hparams, hsector, ← hxdir] at hnextSector
    rw [hparams, hband, ← hxspeed] at hnextBand
    rw [hparams, hmode, htimer, hpair] at hdwell
    refine ⟨(show x.valid = u.valid by rw [hframe]).trans hvalid, (show x.freshness = u.freshness by rw [hframe]).trans hfresh, fun w q hw hq => ⟨fun hnone => ?_,
      fun k hk => ?_⟩, fun hnone => ?_, fun b hb => ?_, hdwell⟩
    · rw [hnextSector, hq, hw]
      exact congrArg (fun k => some (nextSector s.wind.params x.direction k)) hnone
    · have hnext : x.candidateSector = some (nextSector s.wind.params x.direction (some k)) :=
        hnextSector.trans (congrArg (fun k => some (nextSector s.wind.params x.direction k)) hk)
      have hraw : q = rawSector s.wind.params.sectors x.direction := by rw [hq, hw]; rfl
      rw [hnext, hraw, Option.some_inj, Option.some_inj]
      refine ⟨(nextSector_follows _ _ _ Iff.rfl).1, fun far hfar => ?_⟩
      rw [hw] at hfar
      exact (nextSector_follows _ _ _ (hfar.trans le_edgeDistance_iff.symm)).2
    · rw [hnextBand]
      exact congrArg (fun k => some (nextBand s.wind.params x.speed k)) hnone
    · have hnext : x.candidateBand = some (nextBand s.wind.params x.speed (some b)) :=
        hnextBand.trans (congrArg (fun k => some (nextBand s.wind.params x.speed k)) hb)
      rw [hnext]
      simp only [Option.some_inj]
      exact nextBand_follows _ _ _

end Sys2Proof.Machine
end

/-! PROOFS. Reset and start-up (O57). -/

section
namespace Sys2Proof.Machine

variable {s t : State} {a b : Level} {i : Image} {m : ImageBlock} {answered : Bool}

/-! ### Commands while reset is asserted -/

/-- Every command but four is an event of a powered part or a request that is handed to a unit. -/
theorem exec_event_or_handed (c : Instr) : (∃ f, ∀ s, exec c s = State.event f s) ∨
    (∃ h u work, ∀ s, exec c s = s.handed c h u work) ∨ c = .resetAssertion ∨
    (∃ answered a b, c = .startUp answered a b) ∨ ∃ r, c = .unknownRequest r := by
  cases hc : requestAt c with
  | some x =>
    obtain ⟨work, hw⟩ := handed_of_requestAt hc
    exact .inr (.inl ⟨_, _, work, hw⟩)
  | none =>
    cases c <;> cases hc
    case none.resetAssertion.refl => exact .inr (.inr (.inl rfl))
    case none.startUp.refl => exact .inr (.inr (.inr (.inl ⟨_, _, _, rfl⟩)))
    case none.unknownRequest.refl => exact .inr (.inr (.inr (.inr ⟨_, rfl⟩)))
    all_goals exact .inl ⟨_, fun s => rfl⟩

/-- A part in reset takes no event and no request (R187). -/
theorem exec_reset {c : Instr} (hp : s.powered = false) (hr : c ≠ .resetAssertion) (hs : ∀ answered a b, c ≠ .startUp answered a b) :
    exec c s = .next s := by
  have hnone : s.takeRequest c = none := State.takeRequest_eq_none (.inl hp)
  obtain ⟨f, he⟩ | ⟨h, u, work, he⟩ | he | ⟨x, y, z, he⟩ | ⟨r, rfl⟩ := exec_event_or_handed c
  · rw [he, State.event_reset hp]
  · rw [he, State.handed, hnone]
  · exact absurd he hr
  · exact absurd he (hs x y z)
  · simp only [exec, execUnknownRequest, hnone]

/-! ### The judgement of the memory -/

theorem ImageBlock.judge_absent (h : m.mark ≠ Config.imageMark) : m.judge = .absent := if_pos h

/-- An image with the mark that fails any later check is CORRUPT (R186). -/
theorem ImageBlock.judge_corrupt (hm : m.mark = Config.imageMark)
    (h : m.format ≠ Config.imageFormat ∨ m.crc ≠ crc32 m.bytes ∨ m.content.contentOk = false) : m.judge = .corrupt := by
  unfold ImageBlock.judge
  rw [if_neg (Classical.not_not.mpr hm)]
  by_cases hf : m.format = Config.imageFormat
  · rw [if_neg (Classical.not_not.mpr hf)]
    by_cases hc : m.crc = crc32 m.bytes
    · have hk : m.content.contentOk = false := (h.resolve_left (Classical.not_not.mpr hf)).resolve_left (Classical.not_not.mpr hc)
      rw [hk]
      simp
    · have hcrc : m.crcOk = false := beq_false_of_ne hc
      rw [hcrc]
      rfl
  · rw [if_pos hf]

theorem judgeMemory_absent {memory : Option ImageBlock}
    (h : answered = false ∨ ∀ b, memory = some b → b.mark ≠ Config.imageMark) : judgeMemory answered memory = (.absent, none) := by
  cases answered with
  | false => cases memory <;> rfl
  | true => cases memory with
    | none => rfl
    | some b =>
      have hb := ImageBlock.judge_absent (h.resolve_left (by decide) b rfl)
      simp only [judgeMemory, hb]
      rfl

theorem judgeMemory_corrupt (hm : m.mark = Config.imageMark)
    (h : m.format ≠ Config.imageFormat ∨ m.crc ≠ crc32 m.bytes ∨ m.content.contentOk = false) :
    judgeMemory true (some m) = (.corrupt, none) := by
  simp only [judgeMemory, ImageBlock.judge_corrupt hm h]
  rfl

/-- Where the memory does not answer, or its image fails a check, there is no image to load (R186). -/
theorem judgeMemory_none {memory : Option ImageBlock}
    (h : answered = false ∨ ∀ b, memory = some b → b.mark ≠ Config.imageMark ∨ b.format ≠ Config.imageFormat ∨
      b.crc ≠ crc32 b.bytes ∨ b.content.contentOk = false) : ∃ st, judgeMemory answered memory = (st, none) := by
  cases answered with
  | false => exact ⟨_, judgeMemory_absent (.inl rfl)⟩
  | true => cases memory with
    | none => exact ⟨_, rfl⟩
    | some b =>
      by_cases hm : b.mark = Config.imageMark
      · exact ⟨_, judgeMemory_corrupt hm ((h.resolve_left (by decide) b rfl).resolve_left (Classical.not_not.mpr hm))⟩
      · exact ⟨_, judgeMemory_absent (.inr fun x hx => Option.some.inj hx ▸ hm)⟩

theorem judgeMemory_valid (h : m.judge = .valid) : judgeMemory true (some m) = (.valid, some m.content) := by
  simp only [judgeMemory, h]
  rfl

/-! ### The lines at start-up -/

theorem lineIsActive_iff (c : LineConfig) (v : Level) : lineIsActive c v = true ↔
    c.enabled = true ∧ v = (match c.edge with | .rising => .high | .falling => .low) := by
  cases c with
  | mk enabled edge => cases edge <;> simp [lineIsActive, activeLevel]

/-- The lines sampled in a part with no plan and no hold: their levels and states, and for a GRIDHOLD found ACTIVE the Gate's line
hold with its report (R174, R187). -/
theorem State.sampleLines_eq (hi : s.gate.installed = none) (hr : s.gate.requestHold = false) (hl : s.gate.lineHold = false) :
    s.sampleLines a b = { s with
      modes := { s.modes with storm := .afresh s.modes.storm.config a, gridhold := .afresh s.modes.gridhold.config b }
      gate := { s.gate with lineHold := lineIsActive s.modes.gridhold.config b }
      reports := s.reports ++ if lineIsActive s.modes.gridhold.config b = true then [.holdReport true] else [] } := by
  obtain ⟨u, hu⟩ : ∃ u, u = s.onModes fun m => { m with
    storm := .afresh m.storm.config a, gridhold := .afresh m.gridhold.config b } := ⟨_, rfl⟩
  have hsample : s.sampleLines a b = if lineIsActive s.modes.gridhold.config b = true then u.setLineHold true else u := by
    rw [hu]
    rfl
  rw [hsample]
  split
  · next hact =>
    have hplan : (none : Option Plan).map (fun p => { p with state := .held }) = s.gate.installed := hi.symm
    have hnotice : (none : Option Plan).map (fun p => Notice.held p.number p.planTime false true) = none := rfl
    have hui : u.gate.installed = none := by rw [hu]; exact hi
    rw [State.setLineHold_begins (by rw [hu]; exact hr) (by rw [hu]; exact hl), hui, hplan, hnotice, hact, hu]
    simp [State.onModes]
  · next hact =>
    rw [Bool.not_eq_true] at hact
    rw [hact, List.append_nil, ← hl, hu]
    rfl

/-! ### Start-up -/

/-- The part that start-up finds: every block at its factory values, the memory judged (R187). -/
def State.startUpBase (found : ImageState × Option Image) (s : State) : State := { State.reset with
  image := { ImageLoader.factory with state := found.1, savedValid := found.2.map (·.valid), memory := s.image.memory }
  pending := s.pending }

/-- The part that start-up leaves before the lines are sampled: loaded from the image found, or at its factory values (R187). -/
def State.startUpLoaded (found : ImageState × Option Image) (s : State) : State :=
  match found.2 with
  | some i => ((s.startUpBase found).loadImage i).loadBank i
  | none => s.startUpBase found

theorem State.startUp_eq (answered : Bool) (a b : Level) (s : State) : s.startUp answered a b =
    (let u := s.startUpLoaded (judgeMemory answered s.image.memory)
     { u with
      modes := { u.modes with storm := .afresh u.modes.storm.config a, gridhold := .afresh u.modes.gridhold.config b }
      gate := { u.gate with lineHold := lineIsActive u.modes.gridhold.config b }
      reports := if lineIsActive u.modes.gridhold.config b = true then [.holdReport true] else [] }) := by
  have hlines : s.startUp answered a b = (s.startUpLoaded (judgeMemory answered s.image.memory)).sampleLines a b := rfl
  rw [hlines]
  cases hfound : (judgeMemory answered s.image.memory).2 with
  | none =>
    simp only [State.startUpLoaded, hfound]
    exact State.sampleLines_eq rfl rfl rfl
  | some i =>
    simp only [State.startUpLoaded, hfound]
    exact State.sampleLines_eq rfl rfl rfl

/-- The bank that start-up loads is valid just where every sector record below S passes R75 for the farm loaded with it (R85). -/
theorem State.loadBank_valid_iff (hf : t.fleet = s.fleet) (hw : t.wind.params = s.wind.params) (i : Image) :
    (s.loadBank i).tables.valid = true ↔ ∀ k, k < s.wind.params.sectors → sectorValid t (i.bank.sector k) := by
  have hvalid : (s.loadBank i).tables.valid = (t.validate i.bank).isNone := by
    rw [State.validate, hf, hw]
    rfl
  rw [hvalid, Option.isNone_iff_eq_none, validate_none_iff, hw]

/-- What the image found does not change: the clock, the queue, the memory, and the mode's registers (R187). -/
theorem State.startUpLoaded_common (found : ImageState × Option Image) (s : State) :
    (s.startUpLoaded found).powered = true ∧ (s.startUpLoaded found).clock = 0 ∧
      (s.startUpLoaded found).pending = s.pending ∧ (s.startUpLoaded found).image = (s.startUpBase found).image ∧
      (s.startUpLoaded found).modes.mode = .off ∧ (s.startUpLoaded found).modes.steering = false ∧
      (s.startUpLoaded found).modes.latest = ⟨.powerOn, 0, .off, .off⟩ ∧
      (s.startUpLoaded found).modes.unwindRecord = none := by
  obtain ⟨st, i⟩ := found
  cases i <;> exact ⟨rfl, rfl, rfl, rfl, rfl, rfl, rfl, rfl⟩

/-- Settles O57. -/
theorem startUpLoadsAValidImage : Obligations.StartUpLoadsAValidImage := by
  refine ⟨fun s => ⟨_, rfl, rfl, rfl, rfl, rfl, rfl, fun hs => ?_, fun i hs => ?_, rfl⟩, fun s answered a b hp => ?_,
    fun s answered a b hp => ?_, fun s c hp hr hs => exec_reset hp hr hs⟩
  · change s.image.memoryAfterReset = _
    rw [ImageLoader.memoryAfterReset, hs]
  · refine ⟨tornBlock s.image.memory i, ?_, rfl, rfl, mismatched_ne _ _⟩
    change s.image.memoryAfterReset = _
    rw [ImageLoader.memoryAfterReset, hs]
  · have hexec : exec (.startUp answered a b) s = .next (s.startUp answered a b) := by
      simp only [exec, execStartUp, hp, Bool.false_eq_true, if_false]
    obtain ⟨found, hfound⟩ : ∃ found, found = judgeMemory answered s.image.memory := ⟨_, rfl⟩
    rw [State.startUp_eq, ← hfound] at hexec
    obtain ⟨hpow, hclock, hpending, himage, hmode, hsteering, hlatest, hrecord⟩ := State.startUpLoaded_common found s
    have hmemory : (s.startUpLoaded found).image.memory = s.image.memory := by rw [himage]; rfl
    have hsave : (s.startUpLoaded found).image.save = none := by rw [himage]; rfl
    have hlast : (s.startUpLoaded found).image.lastSave = none := by rw [himage]; rfl
    have hstate : (s.startUpLoaded found).image.state = found.1 := by rw [himage]; rfl
    refine ⟨_, hexec, hpow, hclock, hpending, hmemory, hsave, hlast, hmode, hsteering, hlatest, hrecord, rfl, rfl, lineIsActive_iff _ _, rfl,
      lineIsActive_iff _ _, rfl, fun hno => ?_, fun m ha hm hmark hbad => ?_, fun hno => ?_,
      fun m i ha hm hmark hformat hcrc hi hok => ?_⟩
    · refine hstate.trans ?_
      rw [hfound, judgeMemory_absent hno]
    · refine hstate.trans ?_
      rw [hfound, ha, hm, judgeMemory_corrupt hmark hbad]
    · obtain ⟨st, hst⟩ := judgeMemory_none hno
      rw [hfound, hst]
      exact ⟨rfl, rfl, rfl, rfl, rfl, rfl, rfl, rfl, rfl, rfl, rfl, rfl⟩
    · subst hi
      have hjudge : found = (.valid, some m.content) := by
        rw [hfound, ha, hm, judgeMemory_valid (ImageBlock.judge_valid.mpr ⟨hmark, hformat, hcrc, hok⟩)]
      rw [hjudge]
      exact ⟨rfl, rfl, rfl, rfl, rfl, rfl, rfl, fun k => rfl, rfl, rfl, rfl, rfl, rfl, rfl, rfl, rfl, rfl, rfl, rfl, rfl, rfl, rfl,
        State.loadBank_valid_iff rfl rfl m.content⟩
  · simp only [exec, execStartUp, hp, if_true]

end Sys2Proof.Machine
end

/-! PROOFS. The Release Gate's rules for finishes, completion, abort and release; entry to OFF (O46), the release of a wave (O40). -/

section
namespace Sys2Proof.Machine

variable {s t : State} {g k : Gate} {p : Plan} {r : MoveRecord} {n q : Nat}

/-! ### What the Gate counts in the ring -/

theorem MoveRecord.ofPlan_iff : r.ofPlan n = true ↔ r.cls = .normal ∧ r.plan = n := by
  rw [MoveRecord.ofPlan, Bool.and_eq_true, beq_iff_eq, beq_iff_eq]

theorem MoveRecord.waiting_iff : r.waiting = true ↔ r.state = .pending ∨ r.state = .ready := by
  rw [MoveRecord.waiting, Bool.or_eq_true, beq_iff_eq, beq_iff_eq]

/-- A record that waits is unfinished (R113). -/
theorem MoveRecord.finished_of_waiting (h : r.waiting = true) : r.state.finished = false := by
  rcases MoveRecord.waiting_iff.mp h with h | h <;> rw [h] <;> rfl

theorem Gate.planFinished_iff : g.planFinished n = true ↔
    ∀ r ∈ g.ring, r.cls = .normal → r.plan = n → r.state.finished = true := by
  rw [Gate.planFinished, List.all_eq_true]
  refine forall₂_congr fun r _ => ?_
  rw [Bool.or_eq_true, Bool.not_eq_true', ← Bool.not_eq_true, MoveRecord.ofPlan_iff, ← Decidable.imp_iff_not_or, and_imp]

theorem Gate.urgentUnfinished_iff : g.urgentUnfinished = true ↔ ∃ r ∈ g.ring, r.cls = .urgent ∧ r.state.finished = false := by
  rw [Gate.urgentUnfinished, List.any_eq_true]
  refine exists_congr fun r => and_congr_right fun _ => ?_
  rw [Bool.and_eq_true, beq_iff_eq, Bool.not_eq_true']

theorem Gate.countOf_eq (g : Gate) (n : Nat) (st : RecordState) : g.countOf n st =
    g.ring.countP (fun r => decide (r.cls = .normal ∧ r.plan = n ∧ r.state = st)) := by
  refine List.countP_congr fun r _ => ?_
  rw [Bool.and_eq_true, MoveRecord.ofPlan_iff, beq_iff_eq, decide_eq_true_iff, and_assoc]

/-! ### Completion and abort -/

/-- The end of a plan by completion: it is the last plan, and the two reports and the notice are made (R111). -/
theorem State.completePlan_eq (p : Plan) (s : State) : s.completePlan p = { s with
    gate := { s.gate with installed := none, last := some { p with state := .complete } }
    reports := s.reports ++ [.swapConditionReport (.planInstalled false), .completionReport p.number]
    notices := s.notices ++ [.complete p.number p.pair p.planTime p.failures
      (s.gate.ring.countP (fun r => decide (r.cls = .normal ∧ r.plan = p.number ∧ r.state = .settled)))
      (s.gate.ring.countP (fun r => decide (r.cls = .normal ∧ r.plan = p.number ∧ r.state = .failed)))
      (s.gate.ring.countP (fun r => decide (r.cls = .normal ∧ r.plan = p.number ∧ r.state = .skipped)))] } := by
  simp only [← Gate.countOf_eq]
  simp only [State.completePlan, State.report, State.notify, State.onGate, List.append_assoc, List.cons_append, List.nil_append]
  rfl

/-- The completion test completes the installed plan when its waves are released and its records finished (R111). -/
theorem State.testCompletion_done (hi : s.gate.installed = some p) (hw : p.waves.length ≤ p.nextWave)
    (hf : ∀ r ∈ s.gate.ring, r.cls = .normal → r.plan = p.number → r.state.finished = true) :
    s.testCompletion = s.completePlan p := by
  rw [State.testCompletion, hi]
  exact if_pos ⟨hw, Gate.planFinished_iff.mpr hf⟩

/-- With a wave to come or a record unfinished the completion test changes nothing (R111). -/
theorem State.testCompletion_kept (hi : s.gate.installed = some p) (h : p.nextWave < p.waves.length ∨
    ∃ r ∈ s.gate.ring, r.cls = .normal ∧ r.plan = p.number ∧ r.state.finished = false) : s.testCompletion = s := by
  rw [State.testCompletion, hi]
  refine if_neg fun hdone => ?_
  rcases h with hw | ⟨r, hr, hc, hp, hf⟩
  · exact absurd hdone.1 (Nat.not_le.mpr hw)
  · exact absurd (Gate.planFinished_iff.mp hdone.2 r hr hc hp) (by simp [hf])

theorem State.testCompletion_none (hi : s.gate.installed = none) : s.testCompletion = s := by
  rw [State.testCompletion, hi]

/-- The end of a plan by abort: it is the last plan, and the two reports and the notice are made (R126). -/
theorem State.endAborted_eq (p : Plan) (c : AbortCause) (s : State) : s.endAborted p c = { s with
    gate := { s.gate with installed := none, last := some { p with state := .aborted } }
    reports := s.reports ++ [.swapConditionReport (.planInstalled false), .abortReport p.number]
    notices := s.notices ++ [.aborted p.number c p.failures] } := by
  simp only [State.endAborted, State.report, State.notify, State.onGate, List.append_assoc, List.cons_append, List.nil_append]

/-! ### Entry to OFF -/

/-- The reports of an entry to OFF about the URGENT records it cancels (R129, R167). -/
theorem State.reportCancelled_eq (n : Nat) (s : State) : s.reportCancelled n = { s with
    reports := s.reports ++ if n = 0 then [] else List.replicate n (.urgentFinishReport .cancelled) ++ [.unwindEnd] } := by
  unfold State.reportCancelled
  split
  · rw [List.append_nil]
  · rw [List.append_assoc]

/-- A finish of every unfinished record (R130). -/
theorem Gate.cancelEverything_eq (c : FinishCause) (n : Nat) (g : Gate) : g.cancelEverything c n = { g with
    ring := g.ring.map (fun r => if r.state.finished = true then r else { r with
      state := .cancelled, cause := some c, finishTime := some n, segmentTarget := none, grantTime := none })
    normalQueue := [], urgentQueue := [], flights := [], components := ⟨[]⟩ } := by
  have hring : (g.cancelEverything c n).ring = g.ring.map (fun r => if r.state.finished = true then r else { r with
      state := .cancelled, cause := some c, finishTime := some n, segmentTarget := none, grantTime := none }) := by
    refine List.map_congr_left fun r _ => ?_
    cases h : r.state.finished <;> simp [h, MoveRecord.finish]
  rw [← hring]
  rfl

/-- Entry to OFF at the Gate (R130). -/
theorem State.enterOff_eq (s : State) : ∃ due, s.enterOff = { s with
    gate := { s.gate.cancelEverything .disable s.now with
      modeIn := .off, installed := none, scanDue := due
      last := (match s.gate.installed with | some p => some { p with state := .aborted } | none => s.gate.last) }
    reports := s.reports ++
      (match s.gate.installed with
        | some p => [.swapConditionReport (.planInstalled false), .abortReport p.number]
        | none => []) ++
      (if s.gate.ring.countP (fun r => r.cls == .urgent && !r.state.finished) = 0 then []
        else List.replicate (s.gate.ring.countP fun r => r.cls == .urgent && !r.state.finished)
          (.urgentFinishReport .cancelled) ++ [.unwindEnd])
    notices := s.notices ++ (match s.gate.installed with | some p => [.aborted p.number .disable p.failures] | none => []) } := by
  refine ⟨s.gate.scanDue || !s.gate.flights.isEmpty, ?_⟩
  rw [State.enterOff]
  dsimp only [State.onGate]
  cases hi : s.gate.installed with
  | none =>
    simp only [State.reportCancelled_eq, Gate.cancelEverything_eq, List.append_nil]
    rfl
  | some p =>
    simp only [State.reportCancelled_eq, State.endAborted_eq, Gate.cancelEverything_eq]
    rfl

/-- Settles O46. -/
theorem offEntryCancelsEverything : Obligations.OffEntryCancelsEverything := by
  intro s hp
  have hexec : exec .offEntry s = .next (s.arrive .offEntry).enterOff := State.reported_powered hp
  obtain ⟨due, hoff⟩ := State.enterOff_eq (s.arrive .offEntry)
  rw [hoff, Gate.cancelEverything_eq] at hexec
  refine ⟨_, hexec, rfl, rfl, rfl, rfl, rfl, rfl, fun i => rfl, rfl, rfl, rfl, rfl, rfl, rfl, rfl, fun hi => ?_, fun p hi => ?_,
    fun n hn => ?_⟩
  · have hi : (s.arrive .offEntry).gate.installed = none := hi
    rw [hi]
    exact ⟨rfl, List.append_nil _⟩
  · have hi : (s.arrive .offEntry).gate.installed = some p := hi
    rw [hi]
    refine ⟨rfl, rfl, ?_, ?_⟩ <;>
      exact List.mem_append_left _ (List.mem_append_right _ (by simp))
  · have hcount : (s.arrive .offEntry).gate.ring.countP (fun r => r.cls == .urgent && !r.state.finished) = n := by
      rw [hn]
      refine List.countP_congr fun r _ => ?_
      rw [Bool.and_eq_true, beq_iff_eq, Bool.not_eq_true', decide_eq_true_iff]
    rw [hcount]
    rfl

/-! ### The release of a wave -/

theorem Gate.mem_of_record (h : g.record q = some r) : r ∈ g.ring ∧ r.sequence = q :=
  ⟨List.mem_of_find?_eq_some h, beq_iff_eq.mp (List.find?_some (p := fun y : MoveRecord => y.sequence == q) h)⟩

theorem eq_of_nodup_map {α β : Type} {f : α → β} : {l : List α} → (l.map f).Nodup → ∀ {x y : α}, x ∈ l → y ∈ l →
    f x = f y → x = y
  | [], _, _, _, hx, _, _ => (List.not_mem_nil hx).elim
  | a :: l, hd, x, y, hx, hy, h => by
    obtain ⟨ha, hl⟩ := List.nodup_cons.mp hd
    have hout {z : α} (hz : z ∈ l) : f a ≠ f z := fun he => ha (he ▸ List.mem_map_of_mem hz)
    rcases List.mem_cons.mp hx with rfl | hxl
    · rcases List.mem_cons.mp hy with rfl | hyl
      · rfl
      · exact (hout hyl h).elim
    · rcases List.mem_cons.mp hy with rfl | hyl
      · exact (hout hxl h.symm).elim
      · exact eq_of_nodup_map hl hxl hyl h

/-- A record of a ring with distinct numbers is the one of its number. -/
theorem Gate.record_of_mem (hd : (g.ring.map (·.sequence)).Nodup) (h : r ∈ g.ring) : g.record r.sequence = some r := by
  obtain ⟨x, hx⟩ : ∃ x, g.record r.sequence = some x := by
    rw [← Option.isSome_iff_exists, Gate.record, List.find?_isSome]
    exact ⟨r, h, beq_self_eq_true _⟩
  obtain ⟨hmem, hseq⟩ := Gate.mem_of_record hx
  rw [hx, eq_of_nodup_map hd hmem h hseq]

/-- What the release of the records `qs` makes of a record: READY, where it is PENDING and one of them (R110). -/
def MoveRecord.released (qs : List Nat) (r : MoveRecord) : MoveRecord :=
  if r.sequence ∈ qs ∧ r.state = .pending then { r with state := .ready, grantTime := none } else r

theorem MoveRecord.released_sequence (qs : List Nat) (r : MoveRecord) : (r.released qs).sequence = r.sequence := by
  unfold MoveRecord.released
  split <;> rfl

/-- Releasing `q` and then `qs` releases all of them. -/
theorem MoveRecord.released_cons (q : Nat) (qs : List Nat) (r : MoveRecord) :
    (r.released [q]).released qs = r.released (q :: qs) := by
  unfold MoveRecord.released
  by_cases hs : r.state = .pending
  · by_cases hq : r.sequence = q
    · simp [hs, hq]
    · simp [hs, hq]
  · simp [hs]

theorem MoveRecord.released_other (h : r.state = .pending → r.sequence ≠ q) (qs : List Nat) :
    r.released (q :: qs) = r.released qs := by
  rw [← MoveRecord.released_cons]
  exact congrArg _ (if_neg fun hr => h hr.2 (List.mem_singleton.mp hr.1))

/-- A record that stays PENDING at the release of `q` is one of another number. -/
theorem MoveRecord.released_pending : (r.released [q]).state = .pending ↔ r.sequence ≠ q ∧ r.state = .pending := by
  unfold MoveRecord.released
  split
  · next h => exact ⟨fun hp => (by cases hp), fun hp => absurd (List.mem_singleton.mp h.1) hp.1⟩
  · next h => exact ⟨fun hp => ⟨fun hq => h ⟨List.mem_singleton.mpr hq, hp⟩, hp⟩, fun hp => hp.2⟩

theorem Gate.releaseRecords_pending (hd : (g.ring.map (·.sequence)).Nodup) (hr : r ∈ g.ring) (hst : r.state = .pending)
    (qs : List Nat) : Gate.releaseRecords (r.sequence :: qs) g = Gate.releaseRecords qs { g with
      ring := g.ring.map (MoveRecord.released [r.sequence]), normalQueue := g.normalQueue ++ [r.sequence], scanDue := true } := by
  have hring : (g.makeReady r.sequence .normal).ring = g.ring.map (MoveRecord.released [r.sequence]) := by
    rw [Gate.makeReady_ring]
    refine List.map_congr_left fun x hx => ?_
    unfold MoveRecord.released
    by_cases hxr : x.sequence = r.sequence
    · have hsame : x = r := eq_of_nodup_map hd hx hr hxr
      rw [if_pos hxr, if_pos ⟨List.mem_singleton.mpr hxr, hsame ▸ hst⟩]
    · rw [if_neg hxr, if_neg fun h => hxr (List.mem_singleton.mp h.1)]
  rw [← hring]
  simp only [Gate.releaseRecords, Gate.record_of_mem hd hr, hst, if_true]
  rfl

theorem Gate.releaseRecords_other (h : ∀ r ∈ g.ring, r.state = .pending → r.sequence ≠ q)
    (qs : List Nat) : Gate.releaseRecords (q :: qs) g = Gate.releaseRecords qs g := by
  cases hr : g.record q with
  | none => simp only [Gate.releaseRecords, hr]
  | some r =>
    obtain ⟨hmem, hseq⟩ := Gate.mem_of_record hr
    simp only [Gate.releaseRecords, hr, if_neg fun hst => h r hmem hst hseq]

/-- The release of the records of a wave, the numbers in the ring being distinct: the PENDING ones become READY and join the tail of
the normal ready queue in their order (R110). -/
theorem Gate.releaseRecords_spec (qs : List Nat) (hd : (g.ring.map (·.sequence)).Nodup) :
    ∃ added, Gate.releaseRecords qs g = { g with
        ring := g.ring.map (MoveRecord.released qs), normalQueue := g.normalQueue ++ added
        scanDue := g.scanDue || !added.isEmpty } ∧
      added.Sublist qs ∧ ∀ q, q ∈ added ↔ q ∈ qs ∧ ∃ r ∈ g.ring, r.sequence = q ∧ r.state = .pending := by
  induction qs generalizing g with
  | nil =>
    refine ⟨[], ?_, List.Sublist.slnil, by simp⟩
    have hring : g.ring.map (MoveRecord.released []) = g.ring := List.map_id'' (fun r => if_neg (by simp)) _
    rw [hring, List.append_nil, List.isEmpty_nil, Bool.not_true, Bool.or_false]
    rfl
  | cons q qs ih =>
    by_cases hpend : ∃ r ∈ g.ring, r.sequence = q ∧ r.state = .pending
    · obtain ⟨r, hr, rfl, hst⟩ := hpend
      rw [Gate.releaseRecords_pending hd hr hst]
      have hdnew : ((g.ring.map (MoveRecord.released [r.sequence])).map (·.sequence)).Nodup := by
        rw [List.map_map]
        simpa only [Function.comp_def, MoveRecord.released_sequence] using hd
      obtain ⟨added, he, hsub, hmem⟩ := ih (g := { g with
        ring := g.ring.map (MoveRecord.released [r.sequence]), normalQueue := g.normalQueue ++ [r.sequence], scanDue := true }) hdnew
      refine ⟨r.sequence :: added, ?_, hsub.cons_cons _, fun x => ?_⟩
      · rw [he]
        simp only [List.map_map, Function.comp_def, MoveRecord.released_cons, List.append_assoc, List.singleton_append,
          Bool.true_or, List.isEmpty_cons, Bool.not_false, Bool.or_true]
      · rw [List.mem_cons, List.mem_cons, hmem]
        by_cases hx : x = r.sequence
        · exact ⟨fun _ => ⟨.inl hx, r, hr, hx.symm, hst⟩, fun _ => .inl hx⟩
        · refine ⟨fun h => ?_, fun h => ?_⟩
          · obtain ⟨hq, z, hz, hseq, hzst⟩ := h.resolve_left hx
            obtain ⟨y, hy, rfl⟩ := List.mem_map.mp hz
            exact ⟨.inr hq, y, hy, (MoveRecord.released_sequence _ y).symm.trans hseq, (MoveRecord.released_pending.mp hzst).2⟩
          · obtain ⟨hq, y, hy, hseq, hyst⟩ := h
            exact .inr ⟨hq.resolve_left hx, y.released [r.sequence], List.mem_map_of_mem hy,
              (MoveRecord.released_sequence _ y).trans hseq, MoveRecord.released_pending.mpr ⟨fun he => hx (hseq ▸ he), hyst⟩⟩
    · have hother : ∀ r ∈ g.ring, r.state = .pending → r.sequence ≠ q := fun r hr hst hq => hpend ⟨r, hr, hq, hst⟩
      obtain ⟨added, he, hsub, hmem⟩ := ih hd
      have hring : g.ring.map (MoveRecord.released (q :: qs)) = g.ring.map (MoveRecord.released qs) :=
        List.map_congr_left fun r hr => MoveRecord.released_other (hother r hr) qs
      refine ⟨added, by rw [Gate.releaseRecords_other hother, he, hring], hsub.cons q, fun x => ?_⟩
      rw [hmem, List.mem_cons]
      refine ⟨fun h => ⟨.inr h.1, h.2⟩, fun h => ⟨h.1.resolve_left fun hx => ?_, h.2⟩⟩
      exact hpend (hx ▸ h.2)

/-- A release leaves what a plan's completion looks at: class, plan, and whether and how a record is finished (R110). -/
theorem MoveRecord.released_frame (qs : List Nat) (r : MoveRecord) : (r.released qs).cls = r.cls ∧
    (r.released qs).plan = r.plan ∧ (r.released qs).state.finished = r.state.finished ∧
    ∀ st : RecordState, st.finished = true → ((r.released qs).state = st ↔ r.state = st) := by
  unfold MoveRecord.released
  split
  · next h =>
    rw [h.2]
    exact ⟨rfl, rfl, rfl, fun st hst => by cases st <;> cases hst <;> simp⟩
  · exact ⟨rfl, rfl, rfl, fun st _ => Iff.rfl⟩

theorem unfinished_released (qs : List Nat) (n : Nat) (ring : List MoveRecord) :
    (∀ r ∈ ring.map (MoveRecord.released qs), r.cls = .normal → r.plan = n → r.state.finished = true) ↔
      ∀ r ∈ ring, r.cls = .normal → r.plan = n → r.state.finished = true := by
  rw [List.forall_mem_map]
  refine forall₂_congr fun r _ => ?_
  obtain ⟨hc, hp, hf, -⟩ := MoveRecord.released_frame qs r
  rw [hc, hp, hf]

theorem countP_released (qs : List Nat) (n : Nat) {st : RecordState} (hst : st.finished = true) (ring : List MoveRecord) :
    (ring.map (MoveRecord.released qs)).countP (fun r => decide (r.cls = .normal ∧ r.plan = n ∧ r.state = st)) =
      ring.countP (fun r => decide (r.cls = .normal ∧ r.plan = n ∧ r.state = st)) := by
  rw [List.countP_map]
  refine List.countP_congr fun r _ => ?_
  obtain ⟨hc, hp, -, hs⟩ := MoveRecord.released_frame qs r
  rw [Function.comp_apply, decide_eq_true_iff, decide_eq_true_iff, hc, hp, hs st hst]

/-- The next wave comes when plan time reaches its offset, unless hold keeps plan time short of it (R110). -/
theorem Gate.nextRelease_eq {w : Wave} (hi : g.installed = some p) (hw : p.waves[p.nextWave]? = some w)
    (h : w.offset ≤ p.planTime ∨ g.hold = false) : g.nextRelease = some (w.offset - p.planTime, w) := by
  rw [Gate.nextRelease, hi]
  dsimp only
  rw [hw]
  dsimp only
  split
  · next hle => rw [Nat.sub_eq_zero_of_le hle]
  · next hgt => rw [h.resolve_left hgt, if_neg Bool.false_ne_true]

/-- The seconds up to a release take plan time to its offset, or leave it where it is past it (R110). -/
theorem Gate.elapse_to_release {offset : Nat} (hi : g.installed = some p) (h : offset ≤ p.planTime ∨ g.hold = false) :
    g.elapse (offset - p.planTime) = { g with installed := some { p with planTime := max p.planTime offset } } := by
  unfold Gate.elapse
  split
  · next hh =>
    rw [Nat.max_eq_left (h.resolve_right (by simp [hh])), ← hi]
  · have hmax : p.planTime + (offset - p.planTime) = max p.planTime offset := by omega
    rw [hi, Option.map_some, hmax]

/-- The release of the next wave, before the completion test of the last one (R110). -/
theorem State.releaseWave_eq (hd : (s.gate.ring.map (·.sequence)).Nodup) (p : Plan) (w : Wave) : ∃ added u,
    u = { s with
      gate := { s.gate with
        ring := s.gate.ring.map (MoveRecord.released w.sequences), normalQueue := s.gate.normalQueue ++ added
        scanDue := s.gate.scanDue || !added.isEmpty
        installed := some { p with
          nextWave := p.nextWave + 1
          state := if s.gate.hold = true then .held else if p.nextWave + 1 < p.waves.length then .running else .draining } }
      reports := s.reports ++ [.releaseReport p.number p.nextWave] } ∧
    s.releaseWave p w = (if p.nextWave + 1 = p.waves.length then u.testCompletion else u) ∧ added.Sublist w.sequences ∧
    ∀ q, q ∈ added ↔ q ∈ w.sequences ∧ ∃ r ∈ s.gate.ring, r.sequence = q ∧ r.state = .pending := by
  obtain ⟨added, he, hsub, hmem⟩ := Gate.releaseRecords_spec w.sequences hd
  refine ⟨added, _, rfl, ?_, hsub, hmem⟩
  rw [State.releaseWave]
  dsimp only [State.onGate, State.report]
  rw [he]
  rfl

/-- Settles O40. -/
theorem waveReleaseMakesRecordsReady : Obligations.WaveReleaseMakesRecordsReady := by
  intro s p o w hp hi hw h hd ho
  obtain ⟨s1, hs1⟩ : ∃ s1, s1 = s.elapse (w.offset - p.planTime) := ⟨_, rfl⟩
  have hgate : s1.gate = { s.gate with installed := some { p with planTime := max p.planTime w.offset } } := by
    rw [hs1]
    exact Gate.elapse_to_release hi h
  obtain ⟨added, u, hu, hrel, hsub, hmem⟩ :=
    State.releaseWave_eq (s := s1) (by rw [hgate]; exact hd) { p with planTime := max p.planTime w.offset } w
  have hexec : exec .waveRelease s = .next (s1.releaseWave { p with planTime := max p.planTime w.offset } w) := by
    simp only [exec, execWaveRelease, State.event_powered hp, State.nextWaveReleased, Gate.nextRelease_eq hi hw h, ← hs1]
    rw [hgate]
  have hu : u = { s.elapse (w.offset - p.planTime) with
      gate := { s.gate with
        ring := s.gate.ring.map (MoveRecord.released w.sequences), normalQueue := s.gate.normalQueue ++ added
        scanDue := s.gate.scanDue || !added.isEmpty, installed := some o }
      reports := s.reports ++ [.releaseReport p.number p.nextWave] } := by
    rw [hu, ho, hgate, hs1]
    rfl
  have hscan : added ≠ [] → (s.gate.scanDue || !added.isEmpty) = true := fun hne => by
    rw [List.isEmpty_eq_false_iff.mpr hne, Bool.not_false, Bool.or_true]
  have hlast : p.nextWave < p.waves.length := (List.getElem?_eq_some_iff.mp hw).1
  have hmem : ∀ q, q ∈ added ↔ q ∈ w.sequences ∧ ∃ r ∈ s.gate.ring, r.sequence = q ∧ r.state = .pending := by
    rw [hgate] at hmem
    exact hmem
  have hnumber : o.number = p.number ∧ o.pair = p.pair ∧ o.failures = p.failures ∧ o.nextWave = p.nextWave + 1 ∧ o.waves = p.waves := by
    rw [ho]
    exact ⟨rfl, rfl, rfl, rfl, rfl⟩
  obtain ⟨hnumber, hpair, hfailures, hnext, hwaves⟩ := hnumber
  rw [hrel] at hexec
  by_cases hdone : p.nextWave + 1 = p.waves.length ∧
      ∀ r ∈ s.gate.ring, r.cls = .normal → r.plan = p.number → r.state.finished = true
  · obtain ⟨hall, hfinished⟩ := hdone
    have hcomplete : u.testCompletion = u.completePlan o := by
      refine State.testCompletion_done (by rw [hu]) (Nat.le_of_eq (by rw [hwaves, hnext, hall])) ?_
      rw [hu, hnumber]
      exact (unfinished_released _ _ _).mpr hfinished
    rw [if_pos hall, hcomplete, State.completePlan_eq, hu] at hexec
    refine ⟨_, added, hexec, rfl, rfl, rfl, hsub, hmem, hscan, rfl, rfl, rfl, rfl, fun hno => ?_, fun _ _ => ⟨rfl, rfl, ?_, ?_⟩⟩
    · rcases hno with hno | ⟨r, hr, hc, hpl, hf⟩
      · omega
      · exact absurd (hfinished r hr hc hpl) (by simp [hf])
    · rw [hnumber]
      exact List.append_assoc _ _ _
    · rw [hnumber, hpair, hfailures]
      rw [countP_released (st := .settled) _ _ rfl, countP_released (st := .failed) _ _ rfl,
        countP_released (st := .skipped) _ _ rfl]
      rfl
  · have hkept : (if p.nextWave + 1 = p.waves.length then u.testCompletion else u) = u := by
      split
      · next hall =>
        refine State.testCompletion_kept (p := o) (by rw [hu]) (.inr ?_)
        refine Classical.byContradiction fun hno => ?_
        refine hdone ⟨hall, (unfinished_released w.sequences _ _).mp fun r hr hc hpl => ?_⟩
        refine Classical.byContradiction fun hf => ?_
        refine hno ⟨r, ?_, hc, hpl.trans hnumber.symm, Bool.not_eq_true _ ▸ hf⟩
        rw [hu]
        exact hr
      · rfl
    rw [hkept, hu] at hexec
    refine ⟨_, added, hexec, rfl, rfl, rfl, hsub, hmem, hscan, rfl, rfl, rfl, rfl, fun _ => ⟨rfl, rfl, rfl, rfl⟩, fun hall hfin => ?_⟩
    exact absurd ⟨hall, hfin⟩ hdone

end Sys2Proof.Machine
end

/-! PROOFS. The Release Gate's rules for records that wait for a plan and for records created; entry to UNWIND (O45). -/

section
namespace Sys2Proof.Machine

variable {s t : State} {g k : Gate} {p : Plan} {r : MoveRecord} {n q : Nat}

/-! ### The waiting records of a plan -/

/-- The record waits for the plan of a number: a NORMAL one of it in PENDING or READY (R94, R126). -/
@[reducible] def MoveRecord.waitsFor (n : Nat) (r : MoveRecord) : Prop :=
  r.cls = .normal ∧ r.plan = n ∧ (r.state = .pending ∨ r.state = .ready)

/-- The numbers of the records that wait for a plan. -/
def Gate.waitingNumbers (n : Nat) (g : Gate) : List Nat :=
  (g.ring.filter fun r => decide (r.waitsFor n)).map (·.sequence)

theorem Gate.mem_waitingNumbers : q ∈ g.waitingNumbers n ↔ ∃ r ∈ g.ring, r.waitsFor n ∧ r.sequence = q := by
  simp only [Gate.waitingNumbers, List.mem_map, List.mem_filter, decide_eq_true_iff, and_assoc]

theorem MoveRecord.waitsFor_iff : (r.ofPlan n && r.waiting && !r.state.finished) = true ↔ r.waitsFor n := by
  rw [Bool.and_eq_true, Bool.and_eq_true, MoveRecord.ofPlan_iff, Bool.not_eq_true', and_assoc, and_assoc]
  refine and_congr_right fun _ => and_congr_right fun _ => ?_
  rw [← MoveRecord.waiting_iff]
  exact and_iff_left_of_imp MoveRecord.finished_of_waiting

/-- The waiting records of a plan finish in a state and leave the queues (R94, R126). -/
theorem Gate.finishWaiting_eq (n : Nat) (st : RecordState) (c : Option FinishCause) (sec : Nat) (g : Gate) :
    g.finishAll (fun r => r.ofPlan n && r.waiting) st c sec = { g with
      ring := g.ring.map (fun r => if r.waitsFor n then { r with
        state := st, cause := c, finishTime := some sec, segmentTarget := none, grantTime := none } else r)
      normalQueue := g.normalQueue.filter (fun q => decide (q ∉ g.waitingNumbers n))
      urgentQueue := g.urgentQueue.filter (fun q => decide (q ∉ g.waitingNumbers n)) } := by
  have hring : (g.finishAll (fun r => r.ofPlan n && r.waiting) st c sec).ring = g.ring.map (fun r => if r.waitsFor n then { r with
      state := st, cause := c, finishTime := some sec, segmentTarget := none, grantTime := none } else r) := by
    refine List.map_congr_left fun r _ => ?_
    by_cases hw : r.waitsFor n
    · rw [if_pos hw, if_pos (MoveRecord.waitsFor_iff.mpr hw)]
      rfl
    · rw [if_neg hw, if_neg fun h => hw (MoveRecord.waitsFor_iff.mp h)]
  have hleaves : (fun q => !g.ring.any fun r => r.sequence == q && (r.ofPlan n && r.waiting && !r.state.finished)) =
      fun q => decide (q ∉ g.waitingNumbers n) := by
    funext q
    rw [decide_not, Bool.not_inj_iff, Bool.eq_iff_iff, List.any_eq_true, decide_eq_true_iff, Gate.mem_waitingNumbers]
    refine exists_congr fun r => and_congr_right fun _ => ?_
    rw [Bool.and_eq_true, beq_iff_eq, MoveRecord.waitsFor_iff]
    exact and_comm
  rw [← hring, ← hleaves]
  rfl

/-- In a ring with distinct numbers the waiting records are those with their numbers. -/
theorem mem_waitingNumbers_iff (hd : (g.ring.map (·.sequence)).Nodup) (hr : r ∈ g.ring) :
    r.sequence ∈ g.waitingNumbers n ↔ r.waitsFor n := by
  rw [Gate.mem_waitingNumbers]
  refine ⟨fun ⟨x, hx, hw, hseq⟩ => eq_of_nodup_map hd hx hr hseq ▸ hw, fun hw => ⟨r, hr, hw, rfl⟩⟩

/-- The abort of a plan that is installed (R126). -/
theorem State.abortPlan_eq (p : Plan) (c : AbortCause) (s : State) : s.abortPlan p c = { s with
    gate := { (s.gate.finishAll (fun r => r.ofPlan p.number && r.waiting) .cancelled (some .abort) s.now).disown .aborted with
      installed := none, last := some { p with state := .aborted } }
    reports := s.reports ++ [.swapConditionReport (.planInstalled false), .abortReport p.number]
    notices := s.notices ++ [.aborted p.number c p.failures] } := by
  rw [State.abortPlan, State.endAborted_eq]
  rfl

/-! ### Records created -/

/-- Records with the numbers that follow `n`, in their order (R113). -/
def numberedFrom (n : Nat) (rs : List MoveRecord) : List MoveRecord :=
  rs.zipIdx.map fun x => { x.1 with sequence := n + 1 + x.2 }

theorem numberedFrom_cons (n : Nat) (r : MoveRecord) (rs : List MoveRecord) :
    numberedFrom n (r :: rs) = { r with sequence := n + 1 } :: numberedFrom (n + 1) rs := by
  rw [numberedFrom, numberedFrom, List.zipIdx_cons, List.map_cons, List.zipIdx_succ, List.map_map]
  congr 1
  refine List.map_congr_left fun x _ => ?_
  simp only [Function.comp]
  congr 1
  omega

theorem numberedFrom_sequences (n : Nat) (rs : List MoveRecord) :
    (numberedFrom n rs).map (·.sequence) = (List.range rs.length).map (fun k => n + 1 + k) := by
  induction rs generalizing n with
  | nil => rfl
  | cons r rs ih =>
    rw [numberedFrom_cons, List.map_cons, ih, List.length_cons, List.range_succ_eq_map, List.map_cons, List.map_map]
    congr 1
    refine List.map_congr_left fun k _ => ?_
    simp only [Function.comp]
    omega

theorem nextSequence_of_lt (h : n < 4294967295) : nextSequence n = n + 1 := if_neg (Nat.ne_of_lt h)

/-- A record created before the numbers wrap takes the next one, and the ring keeps its last 1024 (R113, R114). -/
theorem Gate.create_eq (hn : g.recordCounter < 4294967295) (hl : g.ring.length ≤ 1024) (r : MoveRecord) :
    g.create r = { g with
      recordCounter := g.recordCounter + 1
      ring := (g.ring ++ [{ r with sequence := g.recordCounter + 1 }]).drop (g.ring.length + 1 - 1024) } := by
  have hpush : ∀ x, pushRecord x g.ring = (g.ring ++ [x]).drop (g.ring.length + 1 - 1024) := fun x => by
    unfold pushRecord Config.ringCapacity
    split
    · rw [Nat.sub_eq_zero_of_le (by omega), List.drop_zero]
    · rw [List.drop_append_of_le_length (by omega), show g.ring.length + 1 - 1024 = 1 by omega]
  simp only [Gate.create, nextSequence_of_lt hn, hpush]

/-- Records taken into a ring one by one leave what they leave together. -/
theorem drop_ring_append {ring : List MoveRecord} (hl : ring.length ≤ 1024) (x : MoveRecord) (rs : List MoveRecord) :
    (((ring ++ [x]).drop (ring.length + 1 - 1024)) ++ rs).drop
      (((ring ++ [x]).drop (ring.length + 1 - 1024)).length + rs.length - 1024) =
        (ring ++ x :: rs).drop (ring.length + (x :: rs).length - 1024) := by
  have hlen : (ring ++ [x]).length = ring.length + 1 := List.length_append
  have hdrop : ring.length + 1 - 1024 + (ring.length + 1 - (ring.length + 1 - 1024) + rs.length - 1024) =
      ring.length + (rs.length + 1) - 1024 := by omega
  rw [← List.drop_append_of_le_length (by rw [hlen]; omega), List.drop_drop, List.length_drop, hlen, hdrop, List.append_assoc,
    List.singleton_append, List.length_cons]

/-- What an unwind's URGENT record for a turbine is created with (R129). -/
def urgentRecord (plan step : Nat) (components : Table Int) (t : Nat) : MoveRecord :=
  { sequence := 0, plan := plan, cls := .urgent, turbine := t, wave := none, source := components.get 0 t, target := 0,
    segments := ceilDiv (components.get 0 t).natAbs step, done := 0, segmentTarget := none, grantTime := none, state := .ready,
    cause := none, finishTime := none }

/-- The URGENT records of an unwind, created before the numbers wrap (R129). -/
theorem Gate.createAllUrgent_eq (plan step : Nat) (ts : List Nat) (hn : g.recordCounter + ts.length ≤ 4294967295)
    (hl : g.ring.length ≤ 1024) : Gate.createAllUrgent plan step ts g = { g with
      recordCounter := g.recordCounter + ts.length
      ring := (g.ring ++ numberedFrom g.recordCounter (ts.map (urgentRecord plan step g.components))).drop
        (g.ring.length + ts.length - 1024)
      urgentQueue := g.urgentQueue ++ (List.range ts.length).map (fun k => g.recordCounter + 1 + k)
      scanDue := g.scanDue || !ts.isEmpty } := by
  induction ts generalizing g with
  | nil =>
    rw [Nat.sub_eq_zero_of_le (by simpa using hl), List.drop_zero]
    simp [Gate.createAllUrgent, numberedFrom]
  | cons t ts ih =>
    rw [List.length_cons] at hn
    have hcreate : g.createUrgent plan step t = { g with
        recordCounter := g.recordCounter + 1
        ring := (g.ring ++ [{ urgentRecord plan step g.components t with sequence := g.recordCounter + 1 }]).drop
          (g.ring.length + 1 - 1024)
        urgentQueue := g.urgentQueue ++ [g.recordCounter + 1], scanDue := true } := by
      rw [Gate.createUrgent, Gate.create_eq (by omega) hl]
      generalize g.ring.length + 1 - 1024 = d
      rfl
    have hlen : (g.createUrgent plan step t).ring.length ≤ 1024 := by
      have happ : (g.ring ++ [{ urgentRecord plan step g.components t with sequence := g.recordCounter + 1 }]).length =
        g.ring.length + 1 := List.length_append
      rw [hcreate]
      dsimp only
      rw [List.length_drop, happ]
      omega
    rw [Gate.createAllUrgent, ih (by rw [hcreate]; change g.recordCounter + 1 + ts.length ≤ _; omega) hlen, hcreate]
    have hring := drop_ring_append hl { urgentRecord plan step g.components t with sequence := g.recordCounter + 1 }
      (numberedFrom (g.recordCounter + 1) (ts.map (urgentRecord plan step g.components)))
    have hcount : (numberedFrom (g.recordCounter + 1) (ts.map (urgentRecord plan step g.components))).length = ts.length := by
      simp [numberedFrom]
    rw [List.length_cons, hcount] at hring
    have hcounter : g.recordCounter + 1 + ts.length = g.recordCounter + (ts.length + 1) := by omega
    have hqueue : g.urgentQueue ++ [g.recordCounter + 1] ++ (List.range ts.length).map (fun k => g.recordCounter + 1 + 1 + k) =
        g.urgentQueue ++ (List.range (ts.length + 1)).map (fun k => g.recordCounter + 1 + k) := by
      rw [List.append_assoc, List.singleton_append, List.range_succ_eq_map, List.map_cons, List.map_map, Nat.add_zero]
      refine congrArg (fun l => g.urgentQueue ++ (g.recordCounter + 1) :: l) (List.map_congr_left fun k _ => ?_)
      simp only [Function.comp]
      omega
    dsimp only
    rw [hring, hcounter, hqueue, List.map_cons, numberedFrom_cons, List.length_cons, List.isEmpty_cons, Bool.true_or, Bool.not_false,
      Bool.or_true]

/-! ### Entry to UNWIND -/

/-- The waiting records of the installed plan, if one is installed (R94, R126). -/
def Gate.installedWaiting (g : Gate) : List Nat :=
  (g.ring.filter fun r => decide (g.installed.map (·.number) = some r.plan ∧ r.cls = .normal ∧
    (r.state = .pending ∨ r.state = .ready))).map (·.sequence)

theorem Gate.installedWaiting_some (h : g.installed = some p) : g.installedWaiting = g.waitingNumbers p.number := by
  refine congrArg _ (List.filter_congr fun r _ => ?_)
  rw [h, Option.map_some, decide_eq_decide, Option.some_inj, MoveRecord.waitsFor, @eq_comm _ p.number]
  exact and_left_comm

theorem Gate.installedWaiting_none (h : g.installed = none) : g.installedWaiting = [] := by
  rw [Gate.installedWaiting, h]
  simp

/-- The abort of the plan that is installed, and nothing without one (R129, step 1). -/
def State.abortInstalled (c : AbortCause) (s : State) : State :=
  match s.gate.installed with
  | some p => s.abortPlan p c
  | none => s

theorem filter_all_kept (l : List Nat) : l.filter (fun _ => true) = l :=
  List.filter_eq_self.mpr fun _ _ => rfl

theorem State.abortInstalled_eq (hd : ringDistinct s) (c : AbortCause) : s.abortInstalled c = { s with
      gate := { s.gate with
        installed := none
        last := (match s.gate.installed with | some p => some { p with state := .aborted } | none => s.gate.last)
        ring := s.gate.ring.map (fun r => if r.sequence ∈ s.gate.installedWaiting then { r with
          state := .cancelled, cause := some .abort, finishTime := some s.now, segmentTarget := none, grantTime := none } else r)
        normalQueue := s.gate.normalQueue.filter (fun q => decide (q ∉ s.gate.installedWaiting))
        urgentQueue := s.gate.urgentQueue.filter (fun q => decide (q ∉ s.gate.installedWaiting))
        flights := s.gate.flights.map (fun f =>
          if s.gate.installed ≠ none ∧ f.fate = .own then { f with fate := .aborted } else f) }
      reports := s.reports ++ (match s.gate.installed with
        | some p => [.swapConditionReport (.planInstalled false), .abortReport p.number] | none => [])
      notices := s.notices ++ (match s.gate.installed with | some p => [.aborted p.number c p.failures] | none => []) } := by
  unfold State.abortInstalled
  cases hi : s.gate.installed with
  | none =>
    simp only [Gate.installedWaiting_none hi, List.not_mem_nil, not_false_iff, decide_true, filter_all_kept, if_false,
      List.map_id', List.append_nil, ne_eq, not_true, false_and]
    rw [← hi]
  | some p =>
    dsimp only
    rw [State.abortPlan_eq, Gate.finishWaiting_eq, Gate.installedWaiting_some hi]
    have hring : (s.gate.ring.map fun r => if r.waitsFor p.number then { r with
        state := .cancelled, cause := some .abort, finishTime := some s.now, segmentTarget := none, grantTime := none } else r) =
        s.gate.ring.map (fun r => if r.sequence ∈ s.gate.waitingNumbers p.number then { r with
          state := .cancelled, cause := some .abort, finishTime := some s.now, segmentTarget := none, grantTime := none }
          else r) := by
      refine List.map_congr_left fun r hr => ?_
      simp only [mem_waitingNumbers_iff hd hr]
    rw [hring]
    simp only [ne_eq, reduceCtorEq, not_false_iff, true_and]
    rfl

/-- The request hold cleared with no plan installed (R127). -/
theorem State.clearRequestHold_eq (hi : s.gate.installed = none) : s.setRequestHold false = { s with
    gate := { s.gate with
      requestHold := false, scanDue := s.gate.scanDue || (s.gate.requestHold && !s.gate.lineHold) }
    reports := s.reports ++ if s.gate.requestHold = true ∧ s.gate.lineHold = false then [.holdReport false] else [] } := by
  by_cases h : s.gate.requestHold = true ∧ s.gate.lineHold = false
  · rw [State.setRequestHold_ends h.1 h.2, if_pos h, h.1, h.2, hi]
    simp [hi]
  · have hsame : (false || s.gate.lineHold) = s.gate.hold := by
      rw [Gate.hold]
      cases hr : s.gate.requestHold <;> cases hl : s.gate.lineHold <;> simp_all
    have hscan : (s.gate.requestHold && !s.gate.lineHold) = false := by
      rw [Bool.eq_false_iff, ne_eq, Bool.and_eq_true, Bool.not_eq_true']
      exact h
    rw [State.setRequestHold_unchanged hsame, if_neg h, hscan, Bool.or_false, List.append_nil]

/-- The number of the plan that an entry to UNWIND aborts, 0 without one (R165). -/
def Gate.installedNumber (g : Gate) : Nat := match g.installed with | some p => p.number | none => 0

/-- The records in the ring once the installed plan is aborted (R126). -/
def State.abortedRing (s : State) : List MoveRecord :=
  s.gate.ring.map (fun r => if r.sequence ∈ s.gate.installedWaiting then { r with
    state := .cancelled, cause := some .abort, finishTime := some s.now, segmentTarget := none, grantTime := none } else r)

/-- The Gate's part of an entry to UNWIND once the installed plan is aborted: the request hold cleared, the URGENT records and the
figures (R129, steps 2 to 4). -/
def State.urgentCreated (plan : Nat) (s : State) : State :=
  let s := s.setRequestHold false
  (s.onGate (Gate.createAllUrgent plan s.planner.params.maxStep s.gate.steeredTurbines)).report
    (.unwindFigures plan s.gate.steeredTurbines.length)

/-- The end report of an entry to UNWIND with no URGENT record unfinished (R129). -/
def State.reportUnwindEnd (s : State) : State := if s.gate.urgentUnfinished then s else s.report .unwindEnd

theorem State.enterUnwind_eq (s : State) : s.enterUnwind =
    (((s.onGate fun g => { g with modeIn := .unwind }).abortInstalled .unwind).urgentCreated
      ((s.gate.installed.map (·.number)).getD 0)).reportUnwindEnd := rfl

theorem State.reportUnwindEnd_eq (s : State) : s.reportUnwindEnd = { s with
    reports := s.reports ++ if s.gate.urgentUnfinished then [] else [.unwindEnd] } := by
  unfold State.reportUnwindEnd
  split
  · rw [List.append_nil]
  · rfl

/-- The URGENT records created with no plan installed, before the numbers wrap (R129). -/
theorem State.urgentCreated_eq (plan : Nat) {ts : List Nat} (hi : s.gate.installed = none) (hts : s.gate.steeredTurbines = ts)
    (hn : s.gate.recordCounter + ts.length ≤ 4294967295) (hl : s.gate.ring.length ≤ 1024) :
    s.urgentCreated plan = { s with
      gate := { s.gate with
        requestHold := false
        scanDue := s.gate.scanDue || (s.gate.requestHold && !s.gate.lineHold) || !ts.isEmpty
        recordCounter := s.gate.recordCounter + ts.length
        ring := (s.gate.ring ++ numberedFrom s.gate.recordCounter (ts.map
          (urgentRecord plan s.planner.params.maxStep s.gate.components))).drop (s.gate.ring.length + ts.length - 1024)
        urgentQueue := s.gate.urgentQueue ++ (List.range ts.length).map (fun k => s.gate.recordCounter + 1 + k) }
      reports := s.reports ++ (if s.gate.requestHold = true ∧ s.gate.lineHold = false then [.holdReport false] else []) ++
        [.unwindFigures plan ts.length] } := by
  have hsteered : (s.setRequestHold false).gate.steeredTurbines = ts := by
    rw [State.clearRequestHold_eq hi]
    exact hts
  rw [State.urgentCreated]
  dsimp only
  rw [hsteered, State.clearRequestHold_eq hi]
  dsimp only [State.onGate, State.report]
  rw [Gate.createAllUrgent_eq plan _ ts (by exact hn) (by exact hl)]

/-- The URGENT records a state has unfinished once an entry to UNWIND has cancelled NORMAL records and created new ones (R129). -/
theorem urgentUnfinished_after_entry {gone : List Nat} {f : MoveRecord → MoveRecord} {new : List MoveRecord} {d : Nat}
    (hf : ∀ r ∈ g.ring, r.sequence ∈ gone → r.cls = .normal ∧ (f r).cls = .normal) (hnew : ∀ r ∈ new, r.cls = .urgent ∧ r.state = .ready)
    (hring : k.ring = (g.ring.map (fun r => if r.sequence ∈ gone then f r else r) ++ new).drop d) (hd : d ≤ g.ring.length)
    (hzero : new = [] → d = 0) :
    k.urgentUnfinished = true ↔ new ≠ [] ∨ ∃ r ∈ g.ring, r.cls = .urgent ∧ r.state.finished = false := by
  rw [Gate.urgentUnfinished_iff, hring]
  constructor
  · rintro ⟨x, hx, hcls, hfin⟩
    rcases List.mem_append.mp (List.mem_of_mem_drop hx) with hx | hx
    · obtain ⟨r, hr, rfl⟩ := List.mem_map.mp hx
      split at hcls
      · next hq => exact absurd ((hf r hr hq).2.symm.trans hcls) (by decide)
      · next hq =>
        rw [if_neg hq] at hfin
        exact .inr ⟨r, hr, hcls, hfin⟩
    · exact .inl (List.ne_nil_of_mem hx)
  · intro h
    by_cases hnil : new = []
    · obtain ⟨r, hr, hcls, hfin⟩ := h.resolve_left (Classical.not_not.mpr hnil)
      have hq : r.sequence ∉ gone := fun hq => absurd ((hf r hr hq).1.symm.trans hcls) (by decide)
      refine ⟨r, ?_, hcls, hfin⟩
      rw [hzero hnil, List.drop_zero]
      exact List.mem_append_left _ (List.mem_map.mpr ⟨r, hr, if_neg hq⟩)
    · obtain ⟨x, xs, rfl⟩ := List.exists_cons_of_ne_nil hnil
      obtain ⟨hcls, hst⟩ := hnew x List.mem_cons_self
      refine ⟨x, ?_, hcls, by rw [hst]; rfl⟩
      rw [List.drop_append_of_le_length (by rwa [List.length_map])]
      exact List.mem_append_right _ List.mem_cons_self

/-- Settles O45. -/
theorem unwindEntryCreatesUrgentRecords : Obligations.UnwindEntryCreatesUrgentRecords := by
  intro s plan ts gone hp hord hroom hplan hts hgone
  have hd := ringDistinct_of_ringOrdered hord
  obtain ⟨hlen, -⟩ := hord
  have hcount : ts.length ≤ 256 := by
    rw [hts]
    exact Nat.le_trans (List.length_filter_le _ _) (Nat.le_of_eq List.length_range)
  have hnumber : (s.gate.installed.map (·.number)).getD 0 = plan := by
    rw [hplan]
    cases s.gate.installed <;> rfl
  obtain ⟨s1, hs1⟩ : ∃ s1, s1 = (s.arrive .unwindEntry).onGate fun g => { g with modeIn := .unwind } := ⟨_, rfl⟩
  have hexec : exec .unwindEntry s = .next ((s1.abortInstalled .unwind).urgentCreated plan).reportUnwindEnd := by
    rw [← hnumber, hs1]
    exact State.reported_powered hp
  obtain ⟨u, hu⟩ : ∃ u, u = (s1.abortInstalled .unwind).urgentCreated plan := ⟨_, rfl⟩
  rw [← hu, State.reportUnwindEnd_eq] at hexec
  have hd1 : ringDistinct s1 := by rw [hs1]; exact hd
  have hroom1 : s1.gate.recordCounter + ts.length ≤ 4294967295 := by
    rw [hs1]
    exact Nat.le_trans (Nat.add_le_add_left hcount s.gate.recordCounter) hroom
  have hts1 : s1.gate.steeredTurbines = ts := by rw [hs1]; exact hts.symm
  have hlen1 : s1.gate.ring.length ≤ 1024 := by rw [hs1]; exact hlen
  have hgone1 : s1.gate.installedWaiting = gone := by rw [hs1]; exact hgone.symm
  rw [State.abortInstalled_eq hd1, State.urgentCreated_eq plan (ts := ts) rfl (by exact hts1) (by exact hroom1)
    (by exact Nat.le_trans (Nat.le_of_eq (List.length_map _)) hlen1), hgone1, show s1.now = s.now by rw [hs1]; rfl] at hu
  subst hs1
  dsimp only [State.onGate, State.arrive] at hu
  have hnil : numberedFrom s.gate.recordCounter (ts.map (urgentRecord plan s.planner.params.maxStep s.gate.components)) = [] ↔
      ts = [] := by
    rw [numberedFrom, List.map_eq_nil_iff, List.zipIdx_eq_nil_iff, List.map_eq_nil_iff]
  have hdrop : s.gate.ring.length + ts.length - 1024 ≤ s.gate.ring.length := by omega
  have hunfinished : u.gate.urgentUnfinished = true ↔ ts ≠ [] ∨ ∃ r ∈ s.gate.ring, r.cls = .urgent ∧ r.state.finished = false := by
    rw [ne_eq, ← hnil]
    refine urgentUnfinished_after_entry (g := s.gate) (gone := gone) (d := s.gate.ring.length + ts.length - 1024)
      (f := fun r => { r with
        state := .cancelled, cause := some .abort, finishTime := some s.now, segmentTarget := none, grantTime := none })
      (fun r hr hq => ?_) (fun r hr => ?_) ?_ hdrop fun h => ?_
    · rw [hgone] at hq
      obtain ⟨x, hx, hseq⟩ := List.mem_map.mp hq
      obtain ⟨hx, hw⟩ := List.mem_filter.mp hx
      have hxr : x = r := eq_of_nodup_map hd hx hr hseq
      have hcls := (decide_eq_true_iff.mp hw).2.1
      exact ⟨hxr ▸ hcls, hxr ▸ hcls⟩
    · rw [numberedFrom] at hr
      obtain ⟨x, hx, rfl⟩ := List.mem_map.mp hr
      obtain ⟨i, hi, hxi⟩ := List.mem_map.mp (List.fst_mem_of_mem_zipIdx hx)
      dsimp only
      rw [← hxi]
      exact ⟨rfl, rfl⟩
    · rw [hu]
      dsimp only
      rw [List.length_map]
    · rw [hnil.mp h, List.length_nil]
      exact Nat.sub_eq_zero_of_le hlen
  refine ⟨_, hexec, ?_, ?_⟩
  · rw [hu]
  have hnew : numberedFrom s.gate.recordCounter (ts.map (urgentRecord plan s.planner.params.maxStep s.gate.components)) =
      ts.zipIdx.map (fun x => { urgentRecord plan s.planner.params.maxStep s.gate.components x.1 with
        sequence := s.gate.recordCounter + 1 + x.2 }) := by
    rw [numberedFrom, List.zipIdx_map, List.map_map]
    exact rfl
  have hend : ∀ [Decidable (ts = [] ∧ ∀ r ∈ s.gate.ring, r.cls = .urgent → r.state.finished = true)],
      (if u.gate.urgentUnfinished then [] else [Instr.unwindEnd]) =
        if ts = [] ∧ ∀ r ∈ s.gate.ring, r.cls = .urgent → r.state.finished = true then [Instr.unwindEnd] else [] := by
    intro _
    by_cases hun : u.gate.urgentUnfinished = true
    · rw [if_pos hun, if_neg fun h => ?_]
      rcases hunfinished.mp hun with hne | ⟨r, hr, hcls, hfin⟩
      · exact hne h.1
      · exact absurd (h.2 r hr hcls) (by simp [hfin])
    · obtain ⟨hempty, hall⟩ := not_or.mp (mt hunfinished.mpr hun)
      rw [if_neg hun, if_pos ⟨Classical.not_not.mp hempty, fun r hr hcls => eq_true_of_ne_false fun hfin => hall ⟨r, hr, hcls, hfin⟩⟩]
  rw [hu] at hend ⊢
  refine ⟨rfl, rfl, rfl, rfl, rfl, rfl, rfl, rfl, fun hne => ?_, ?_, fun hi => ?_, fun p hi => ?_, ?_⟩
  · dsimp only
    rw [List.isEmpty_eq_false_iff.mpr hne, Bool.not_false, Bool.or_true]
  · dsimp only
    rw [List.length_map, List.drop_append_of_le_length (by rwa [List.length_map]), hnew]
    rfl
  · dsimp only
    rw [hi, List.append_nil]
    exact ⟨rfl, rfl⟩
  · dsimp only
    rw [hi]
    exact ⟨rfl, rfl⟩
  · refine congr (congrArg HAppend.hAppend ?_) hend
    dsimp only
    cases hi : s.gate.installed with
    | none =>
      rw [if_pos rfl]
      rfl
    | some p =>
      have hp : plan = p.number := hplan.trans (congrArg (fun o : Option Plan => match o with | some p => p.number | none => 0) hi)
      rw [if_neg (Option.some_ne_none p), hp]
      rfl

end Sys2Proof.Machine
end

/-! PROOFS. The Release Gate's rules for one record's finish; how segments settle and fail (O43). -/

section
namespace Sys2Proof.Machine

variable {s t : State} {g k : Gate} {p : Plan} {r : MoveRecord} {f : Flight} {n q : Nat} {c : FinishCause}
  {F : MoveRecord → MoveRecord} {ring : List MoveRecord}

/-! ### One record finished -/

/-- The change of one record of the ring, by its number. -/
def changeRecord (q : Nat) (F : MoveRecord → MoveRecord) (ring : List MoveRecord) : List MoveRecord :=
  ring.map fun x => if x.sequence = q then F x else x

/-- A change of a record finishes it: its number, class and plan stay (R113). -/
def finishes (F : MoveRecord → MoveRecord) : Prop :=
  ∀ x, (F x).sequence = x.sequence ∧ (F x).cls = x.cls ∧ (F x).plan = x.plan ∧ (F x).state.finished = true

/-- With one record finished, a plan's records are all finished just where the others are. -/
theorem planFinished_changeRecord (hF : finishes F) :
    (∀ x ∈ changeRecord q F ring, x.cls = .normal → x.plan = n → x.state.finished = true) ↔
      ∀ x ∈ ring, x.cls = .normal → x.plan = n → x.sequence ≠ q → x.state.finished = true := by
  rw [changeRecord, List.forall_mem_map]
  refine forall₂_congr fun x _ => ?_
  obtain ⟨-, -, -, hfin⟩ := hF x
  by_cases hq : x.sequence = q
  · simp [hq, hfin]
  · simp [hq]

theorem unfinished_changeRecord (hF : finishes F) :
    (∃ x ∈ changeRecord q F ring, x.cls = .normal ∧ x.plan = n ∧ x.state.finished = false) ↔
      ∃ x ∈ ring, x.cls = .normal ∧ x.plan = n ∧ x.sequence ≠ q ∧ x.state.finished = false := by
  have h := not_congr (planFinished_changeRecord (q := q) (n := n) (ring := ring) hF)
  simpa only [Classical.not_forall, exists_prop, Bool.not_eq_true] using h

theorem urgentUnfinished_changeRecord (hF : finishes F) (hk : k.ring = changeRecord q F ring) :
    k.urgentUnfinished = true ↔ ∃ x ∈ ring, x.cls = .urgent ∧ x.sequence ≠ q ∧ x.state.finished = false := by
  rw [Gate.urgentUnfinished_iff, hk, changeRecord]
  constructor
  · rintro ⟨y, hy, hcls, hfin⟩
    obtain ⟨x, hx, rfl⟩ := List.mem_map.mp hy
    by_cases hq : x.sequence = q
    · rw [if_pos hq, (hF x).2.2.2] at hfin
      cases hfin
    · rw [if_neg hq] at hcls hfin
      exact ⟨x, hx, hcls, hq, hfin⟩
  · rintro ⟨x, hx, hcls, hq, hfin⟩
    exact ⟨x, List.mem_map.mpr ⟨x, hx, if_neg hq⟩, hcls, hfin⟩

/-- Two changes of one record, the first keeping its number, are one. -/
theorem changeRecord_changeRecord {E : MoveRecord → MoveRecord} (hE : ∀ x, (E x).sequence = x.sequence) :
    changeRecord q F (changeRecord q E ring) = changeRecord q (fun x => F (E x)) ring := by
  rw [changeRecord, changeRecord, changeRecord, List.map_map]
  refine List.map_congr_left fun x _ => ?_
  by_cases hq : x.sequence = q
  · simp [hq, hE]
  · simp [hq]

/-- The record of a number after that record's change. -/
theorem Gate.record_onRecord (hF : ∀ x, (F x).sequence = x.sequence) (h : g.record q = some r) :
    (g.onRecord q F).record q = some (F r) := by
  rw [Gate.record, Gate.onRecord_ring, List.find?_map]
  have hsame : ((fun x : MoveRecord => x.sequence == q) ∘ fun x => if x.sequence = q then F x else x) = fun x => x.sequence == q := by
    funext x
    by_cases hq : x.sequence = q <;> simp [hq, hF]
  have hq : r.sequence = q := (Gate.mem_of_record h).2
  have hfind : g.ring.find? (fun x => x.sequence == q) = some r := h
  rw [hsame, hfind, Option.map_some, if_pos hq]

/-! ### What follows a finish -/

theorem State.recordFinished_urgent (h : r.cls = .urgent) (o : UrgentOutcome) (s : State) : s.recordFinished r o = { s with
    reports := s.reports ++ [.urgentFinishReport o] ++ if s.gate.urgentUnfinished then [] else [.unwindEnd] } := by
  rw [State.recordFinished, h]
  dsimp only
  have hsame : (s.report (.urgentFinishReport o)).gate.urgentUnfinished = s.gate.urgentUnfinished := rfl
  rw [hsame]
  split
  · rw [List.append_nil]
    rfl
  · rfl

theorem State.recordFinished_normal (h : r.cls = .normal) (hi : s.gate.installed = some p) (hp : p.number = r.plan)
    (o : UrgentOutcome) : s.recordFinished r o = s.testCompletion := by
  rw [State.recordFinished, h]
  exact if_pos (by rw [hi, ← hp]; rfl)

/-- A record of no installed plan is followed by nothing (R111). -/
theorem State.recordFinished_other (h : r.cls = .normal) (hi : s.gate.installed.map (·.number) ≠ some r.plan)
    (o : UrgentOutcome) : s.recordFinished r o = s := by
  rw [State.recordFinished, h]
  exact if_neg hi

/-- The completion test writes the installed and the last plan, reports and notices, and nothing else (R111). -/
theorem State.testCompletion_frame (s : State) : s.testCompletion = { s with
    gate := { s.gate with installed := s.testCompletion.gate.installed, last := s.testCompletion.gate.last }
    reports := s.testCompletion.reports, notices := s.testCompletion.notices } := by
  unfold State.testCompletion
  split
  · rfl
  · split
    · rw [State.completePlan_eq]
    · rfl

/-- The completion test makes the COMPLETE notice, or none (R111). -/
theorem State.testCompletion_notices (s : State) : ∃ more, s.testCompletion.notices = s.notices ++ more := by
  unfold State.testCompletion
  split
  · exact ⟨[], (List.append_nil _).symm⟩
  · split
    · rw [State.completePlan_eq]
      exact ⟨_, rfl⟩
    · exact ⟨[], (List.append_nil _).symm⟩

/-- What follows a finish writes the installed and the last plan, reports and notices, and nothing else (R111, R129). -/
theorem State.recordFinished_frame (r : MoveRecord) (o : UrgentOutcome) (s : State) : s.recordFinished r o = { s with
    gate := { s.gate with installed := (s.recordFinished r o).gate.installed, last := (s.recordFinished r o).gate.last }
    reports := (s.recordFinished r o).reports, notices := (s.recordFinished r o).notices } := by
  cases hc : r.cls with
  | normal =>
    by_cases hi : s.gate.installed.map (·.number) = some r.plan
    · have htest : s.recordFinished r o = s.testCompletion := by
        rw [State.recordFinished, hc]
        exact if_pos hi
      rw [htest]
      exact State.testCompletion_frame s
    · rw [State.recordFinished_other hc hi]
  | urgent => rw [State.recordFinished_urgent hc]

/-- The finish of a NORMAL record of the installed plan, the other records standing as in `ring`: nothing follows while a wave is to
come or another record is unfinished, and otherwise the plan completes (R111). -/
theorem State.recordFinished_changed (hF : finishes F) (hring : s.gate.ring = changeRecord q F ring) (hc : r.cls = .normal)
    (hi : s.gate.installed = some p) (hp : p.number = r.plan) (o : UrgentOutcome) :
    ((p.nextWave < p.waves.length ∨ ∃ x ∈ ring, x.cls = .normal ∧ x.plan = p.number ∧ x.sequence ≠ q ∧ x.state.finished = false) →
      s.recordFinished r o = s) ∧
    (p.waves.length ≤ p.nextWave → (∀ x ∈ ring, x.cls = .normal → x.plan = p.number → x.sequence ≠ q → x.state.finished = true) →
      s.recordFinished r o = s.completePlan p) := by
  rw [State.recordFinished_normal hc hi hp]
  refine ⟨fun h => State.testCompletion_kept hi ?_, fun hw h => State.testCompletion_done hi hw ?_⟩
  · rw [hring, unfinished_changeRecord hF]
    exact h
  · rw [hring, planFinished_changeRecord hF]
    exact h

/-- The finish of an URGENT record, the other records standing as in `ring` (R129, R166). -/
theorem State.recordFinished_changed_urgent (hF : finishes F) (hring : s.gate.ring = changeRecord q F ring) (hc : r.cls = .urgent)
    (o : UrgentOutcome) [Decidable (∃ x ∈ ring, x.cls = .urgent ∧ x.sequence ≠ q ∧ x.state.finished = false)] :
    s.recordFinished r o = { s with reports := s.reports ++ [.urgentFinishReport o] ++
      if ∃ x ∈ ring, x.cls = .urgent ∧ x.sequence ≠ q ∧ x.state.finished = false then [] else [.unwindEnd] } := by
  rw [State.recordFinished_urgent hc]
  congr 2
  exact ite_congr (propext (urgentUnfinished_changeRecord hF hring)) (fun _ => rfl) (fun _ => rfl)

/-! ### Settle -/

/-- The state once a segment has left those in flight and its record is changed by `F` (R122, R125). -/
def State.segmentEnded (f : Flight) (F : MoveRecord → MoveRecord) (s : State) : State := { s with
  gate := { s.gate with
    flights := s.gate.flights.filter (fun x => x.turbine != f.turbine), scanDue := true
    ring := changeRecord f.record F s.gate.ring } }

/-- The settle of a segment whose record is finished by it (R122). -/
theorem State.settle_finished {st : RecordState} {cause : Option FinishCause} (hr : s.gate.record f.record = some r)
    (ho : settleOutcome f.fate (s.gate.component f.turbine == r.target) = some (st, cause)) :
    s.settle f = (s.segmentEnded f fun x => { x with
      done := x.done + 1, state := st, cause := cause, finishTime := some s.now, segmentTarget := none
      grantTime := none }).recordFinished { r with done := r.done + 1 } .settled := by
  have hq : r.sequence = f.record := (Gate.mem_of_record hr).2
  have hrecord : ((s.gate.endFlight f).onRecord f.record fun r => { r with done := r.done + 1 }).record f.record =
      some { r with done := r.done + 1 } := Gate.record_onRecord (fun x => rfl) hr
  rw [State.settle]
  dsimp only [State.onGate]
  rw [hrecord]
  dsimp only
  have hcomp : ((s.gate.endFlight f).onRecord f.record fun r => { r with done := r.done + 1 }).component f.turbine =
      s.gate.component f.turbine := rfl
  rw [hcomp, ho]
  dsimp only
  refine congrArg (State.recordFinished _ _) ?_
  have hring := changeRecord_changeRecord (q := f.record) (ring := s.gate.ring) (F := MoveRecord.finish st cause s.now)
    (E := fun r => { r with done := r.done + 1 }) fun x => rfl
  unfold State.segmentEnded
  rw [show (fun x : MoveRecord => ({ x with
      done := x.done + 1, state := st, cause := cause, finishTime := some s.now, segmentTarget := none
      grantTime := none } : MoveRecord)) = fun x => MoveRecord.finish st cause s.now { x with done := x.done + 1 } from rfl, ← hring,
    ← hq]
  rfl

/-- The settle of an OWN or URGENT segment short of its record's target makes the record READY again (R122). -/
theorem State.settle_ready (hr : s.gate.record f.record = some r)
    (ho : settleOutcome f.fate (s.gate.component f.turbine == r.target) = none) :
    s.settle f = (s.segmentEnded f fun x => { x with done := x.done + 1, state := .ready, grantTime := none }).onGate fun g =>
      g.setQueue r.cls (g.queue r.cls ++ [f.record]) := by
  have hq : r.sequence = f.record := (Gate.mem_of_record hr).2
  have hrecord : ((s.gate.endFlight f).onRecord f.record fun r => { r with done := r.done + 1 }).record f.record =
      some { r with done := r.done + 1 } := Gate.record_onRecord (fun x => rfl) hr
  rw [State.settle]
  dsimp only [State.onGate]
  rw [hrecord]
  dsimp only
  have hcomp : ((s.gate.endFlight f).onRecord f.record fun r => { r with done := r.done + 1 }).component f.turbine =
      s.gate.component f.turbine := rfl
  rw [hcomp, ho]
  dsimp only
  have hring := changeRecord_changeRecord (q := f.record) (ring := s.gate.ring)
    (F := fun r => { r with state := .ready, grantTime := none }) (E := fun r => { r with done := r.done + 1 }) fun x => rfl
  unfold State.segmentEnded
  rw [← hring, hq]
  cases r.cls <;> rfl

theorem Gate.setQueue_eq (c : MoveClass) (l : List Nat) (g : Gate) : g.setQueue c l = { g with
    normalQueue := if c = .normal then l else g.normalQueue, urgentQueue := if c = .urgent then l else g.urgentQueue } := by
  cases c <;> rfl

/-! ### Failure -/

/-- The state once a segment has failed and its turbine is FAULT, before the failure is charged or reported (R125). -/
def State.segmentFailed (f : Flight) (c : FinishCause) (s : State) : State :=
  { s.segmentEnded f fun x => { x with
      state := .failed, cause := some c, finishTime := some s.now, segmentTarget := none, grantTime := none } with
    fleet := s.fleet.failureReported f.turbine, notices := s.notices ++ [.moveFailed f.record f.turbine c f.target] }

/-- The end report where the URGENT record that failed was the last unfinished one (R129). -/
theorem State.fail_eq (hr : s.gate.record f.record = some r) (c : FinishCause) : s.fail f c = match f.fate with
    | .own => (s.segmentFailed f c).chargeFailure
    | .urgent => (((s.segmentFailed f c).report (.urgentFinishReport .failed)).reportUnwindEnd)
    | .superseded | .aborted => s.segmentFailed f c := by
  have hq : r.sequence = f.record := (Gate.mem_of_record hr).2
  have hrecord : (s.gate.endFlight f).record f.record = some r := hr
  rw [State.fail]
  dsimp only [State.onGate]
  rw [hrecord]
  dsimp only
  unfold State.segmentFailed State.segmentEnded
  rw [← hq]
  cases f.fate <;> rfl

theorem State.fail_own (hr : s.gate.record f.record = some r) (hf : f.fate = .own) (c : FinishCause) :
    s.fail f c = (s.segmentFailed f c).chargeFailure := by
  rw [State.fail_eq hr, hf]

theorem State.fail_urgent (hr : s.gate.record f.record = some r) (hf : f.fate = .urgent) (c : FinishCause) :
    s.fail f c = { s.segmentFailed f c with reports := s.reports ++ [.urgentFinishReport .failed] ++
      if (s.segmentFailed f c).gate.urgentUnfinished then [] else [.unwindEnd] } := by
  rw [State.fail_eq hr, hf]
  exact State.reportUnwindEnd_eq _

theorem State.fail_other (hr : s.gate.record f.record = some r) (hf : f.fate = .superseded ∨ f.fate = .aborted) (c : FinishCause) :
    s.fail f c = s.segmentFailed f c := by
  rw [State.fail_eq hr]
  rcases hf with hf | hf <;> rw [hf]

theorem State.chargeFailure_none (h : s.gate.installed = none) : s.chargeFailure = s := by
  rw [State.chargeFailure, h]

/-- A failure charged below the limit is noticed, and then the completion test is made (R125). -/
theorem State.chargeFailure_below (h : s.gate.installed = some p) (hl : p.failures + 1 < s.planner.params.failureLimit) :
    s.chargeFailure = State.testCompletion { s with
      gate := { s.gate with installed := some { p with failures := p.failures + 1 } }
      notices := s.notices ++ [.failure p.number (p.failures + 1)] } := by
  rw [State.chargeFailure, h]
  exact if_neg (Nat.not_le.mpr hl)

/-- The failure that reaches the limit aborts the plan (R125, R126). -/
theorem State.chargeFailure_limit (h : s.gate.installed = some p) (hl : s.planner.params.failureLimit ≤ p.failures + 1) :
    s.chargeFailure = State.abortPlan { p with failures := p.failures + 1 } .failureLimit { s with
      gate := { s.gate with installed := some { p with failures := p.failures + 1 } } } := by
  rw [State.chargeFailure, h]
  exact if_pos hl

/-- What a failure leads to beyond its own record and notice: it writes plans, records, queues, fates, reports and notices; no record
that is finished leaves the ring, and no other segment ends (R125, R126). -/
def failureFollows (s t : State) (rest : List Notice) : Prop :=
  t = { s with
    gate := { s.gate with
      installed := t.gate.installed, last := t.gate.last, ring := t.gate.ring, normalQueue := t.gate.normalQueue
      urgentQueue := t.gate.urgentQueue, flights := t.gate.flights }
    reports := t.reports, notices := s.notices ++ rest } ∧
  t.gate.flights.map (·.turbine) = s.gate.flights.map (·.turbine) ∧
  ∀ x ∈ s.gate.ring, x.state.finished = true → x ∈ t.gate.ring

theorem failureFollows_refl (s : State) : failureFollows s s [] := by
  refine ⟨?_, rfl, fun x hx _ => hx⟩
  rw [List.append_nil]

theorem Gate.disown_turbines (fate : Fate) (g : Gate) : (g.disown fate).flights.map (·.turbine) = g.flights.map (·.turbine) := by
  rw [Gate.disown, List.map_map]
  refine List.map_congr_left fun x _ => ?_
  simp only [Function.comp]
  split <;> rfl

theorem failureFollows_charge (s : State) : ∃ rest, failureFollows s s.chargeFailure rest := by
  cases hi : s.gate.installed with
  | none =>
    rw [State.chargeFailure_none hi]
    exact ⟨[], failureFollows_refl s⟩
  | some p =>
    by_cases hl : s.planner.params.failureLimit ≤ p.failures + 1
    · rw [State.chargeFailure_limit hi hl, State.abortPlan_eq]
      refine ⟨[.aborted p.number .failureLimit (p.failures + 1)], rfl, Gate.disown_turbines _ _, fun x hx hfin => ?_⟩
      refine List.mem_map.mpr ⟨x, hx, if_neg fun h => ?_⟩
      exact absurd (MoveRecord.finished_of_waiting (MoveRecord.waiting_iff.mpr (MoveRecord.waitsFor_iff.mp h).2.2)) (by simp [hfin])
    · rw [State.chargeFailure_below hi (Nat.lt_of_not_le hl)]
      obtain ⟨u, hu⟩ : ∃ u : State, u = { s with
        gate := { s.gate with installed := some { p with failures := p.failures + 1 } }
        notices := s.notices ++ [.failure p.number (p.failures + 1)] } := ⟨_, rfl⟩
      rw [← hu]
      obtain ⟨more, hmore⟩ := State.testCompletion_notices u
      have hframe := State.testCompletion_frame u
      refine ⟨.failure p.number (p.failures + 1) :: more, ?_, ?_, fun x hx _ => ?_⟩
      · have hnotices : u.testCompletion.notices = s.notices ++ .failure p.number (p.failures + 1) :: more := by
          rw [hmore, hu, List.append_assoc]
          rfl
        rw [← hnotices, hframe, hu]
      · rw [hframe, hu]
      · rw [hframe, hu]
        exact hx

theorem failureFollows_fail (hr : s.gate.record f.record = some r) (c : FinishCause) :
    ∃ rest, failureFollows (s.segmentFailed f c) (s.fail f c) rest := by
  cases hf : f.fate with
  | own =>
    rw [State.fail_own hr hf]
    exact failureFollows_charge _
  | urgent =>
    rw [State.fail_urgent hr hf]
    refine ⟨[], ?_, rfl, fun x hx _ => hx⟩
    rw [List.append_nil]
  | superseded =>
    rw [State.fail_other hr (.inl hf)]
    exact ⟨[], failureFollows_refl _⟩
  | aborted =>
    rw [State.fail_other hr (.inr hf)]
    exact ⟨[], failureFollows_refl _⟩

/-- The change of a record that fails (R125). -/
def failedAt (c : FinishCause) (n : Nat) (x : MoveRecord) : MoveRecord :=
  { x with state := .failed, cause := some c, finishTime := some n, segmentTarget := none, grantTime := none }

theorem finishes_failedAt (c : FinishCause) (n : Nat) : finishes (failedAt c n) := fun _ => ⟨rfl, rfl, rfl, rfl⟩

theorem State.segmentFailed_ring (f : Flight) (c : FinishCause) (s : State) :
    (s.segmentFailed f c).gate.ring = changeRecord f.record (failedAt c s.now) s.gate.ring := rfl

/-- The records that wait for a plan once one record has failed are the others that waited (R126). -/
theorem waitingNumbers_failed (hk : k.ring = changeRecord q (failedAt c n) ring) (m : Nat) : k.waitingNumbers m =
    (ring.filter (fun x => decide (x.sequence ≠ q ∧ x.cls = .normal ∧ x.plan = m ∧
      (x.state = .pending ∨ x.state = .ready)))).map (·.sequence) := by
  rw [Gate.waitingNumbers, hk, changeRecord, List.filter_map, List.map_map]
  have hfilter : ring.filter ((fun r => decide (r.waitsFor m)) ∘ fun x => if x.sequence = q then failedAt c n x else x) =
      ring.filter (fun x => decide (x.sequence ≠ q ∧ x.cls = .normal ∧ x.plan = m ∧ (x.state = .pending ∨ x.state = .ready))) := by
    refine List.filter_congr fun x _ => ?_
    by_cases hq : x.sequence = q
    · simp [hq, failedAt]
    · simp [hq]
  rw [hfilter]
  refine List.map_congr_left fun x _ => ?_
  simp only [Function.comp]
  split <;> rfl

/-- The ring of a plan aborted by the failure of one record (R125, R126). -/
theorem abortedRing_failed (m : Nat) : (changeRecord q (failedAt c n) ring).map (fun r => if r.waitsFor m then { r with
      state := .cancelled, cause := some .abort, finishTime := some n, segmentTarget := none, grantTime := none } else r) =
    ring.map (fun x =>
      if x.sequence = q then { x with
        state := .failed, cause := some c, finishTime := some n, segmentTarget := none, grantTime := none }
      else if x.cls = .normal ∧ x.plan = m ∧ (x.state = .pending ∨ x.state = .ready) then { x with
        state := .cancelled, cause := some .abort, finishTime := some n, segmentTarget := none, grantTime := none }
      else x) := by
  rw [changeRecord, List.map_map]
  refine List.map_congr_left fun x _ => ?_
  by_cases hq : x.sequence = q
  · simp [hq, failedAt]
  · simp [hq]

/-! ### The commands that end a segment -/

/-- Some seconds have passed: only the clock, plan time and the received pauses are others. -/
def timePassed (s t : State) : Prop :=
  t = { s with clock := t.clock, gate := { s.gate with installed := t.gate.installed }, line := t.line }

theorem timePassed_elapse (n : Nat) (s : State) : timePassed s (s.elapse n) := by
  unfold timePassed State.elapse Gate.elapse
  split <;> rfl

theorem timePassed_refl (s : State) : timePassed s s := rfl

/-- A sample for a turbine in LIVE and UNWIND acts on the turbine's segment (R122, R125). -/
theorem exec_segmentSample_flight (hp : s.powered = true) {i : Nat} (hfl : s.gate.flightOf i = some f)
    (hm : inSending s.gate.modeIn) (y : YawState) (a : Int) : exec (.segmentSample i y a) s = .next (match y with
      | .fault => s.fail f .yawFault
      | .locked => s.fail f .locked
      | .running => s
      | .idle => if (a - s.commandedBias i).natAbs ≤ s.planner.params.settleTol then s.settle f else s) := by
  have hacts := congrArg (fun o : Option Flight => match o with
    | none => s
    | some f => match y with
      | .fault => s.fail f .yawFault
      | .locked => s.fail f .locked
      | .running => s
      | .idle => if (a - s.commandedBias i).natAbs ≤ s.planner.params.settleTol then s.settle f else s) hfl
  exact (State.event_powered hp).trans (congrArg _ ((if_pos (sending_iff.mpr hm)).trans hacts))

theorem exec_segmentSample_resting (hp : s.powered = true) (hm : ¬ inSending s.gate.modeIn) (i : Nat) (y : YawState) (a : Int) :
    exec (.segmentSample i y a) s = .next s := by
  have hexec : exec (.segmentSample i y a) s = .next (s.segmentSampled i y a) := State.event_powered hp
  rw [hexec, State.segmentSampled, if_neg (mt sending_iff.mp hm)]

theorem exec_segmentSample_unused (hp : s.powered = true) {i : Nat} (h : s.gate.flightOf i = none) (y : YawState) (a : Int) :
    exec (.segmentSample i y a) s = .next s := by
  have hexec : exec (.segmentSample i y a) s = .next (s.segmentSampled i y a) := State.event_powered hp
  rw [hexec, State.segmentSampled, h]
  exact congrArg _ (ite_self s)

theorem exec_simulatedSettleExpiry (hp : s.powered = true) (hfl : s.gate.flightOf f.turbine = some f) (hsim : f.simulated = true) :
    exec (.simulatedSettleExpiry f.turbine) s = .next ((s.elapse (f.expires - s.clock)).settle f) := by
  have hafter : (s.elapse (f.expires - s.clock)).gate.flightOf f.turbine = some f := by
    rw [timePassed_elapse (f.expires - s.clock) s]
    exact hfl
  have htimer : s.gate.simulatedOf f.turbine = some f.expires := by
    rw [Gate.simulatedOf, hfl]
    exact if_pos hsim
  simp only [exec, execSimulatedSettleExpiry, State.event_powered hp, htimer, State.expire_running, hafter]

theorem exec_timeoutExpiry (hp : s.powered = true) (hfl : s.gate.flightOf f.turbine = some f) (hsim : f.simulated = false) :
    exec (.timeoutExpiry f.turbine) s = .next ((s.elapse (f.expires - s.clock)).fail f .timeout) := by
  have hafter : (s.elapse (f.expires - s.clock)).gate.flightOf f.turbine = some f := by
    rw [timePassed_elapse (f.expires - s.clock) s]
    exact hfl
  have htimer : s.gate.timeoutOf f.turbine = some f.expires := by
    rw [Gate.timeoutOf, hfl]
    exact if_neg (by simp [hsim])
  simp only [exec, execTimeoutExpiry, State.event_powered hp, htimer, State.expire_running, hafter]

/-- A segment settled by a sample in its tolerance, or by the simulated settle (R122, R123). -/
theorem exec_settles {s1 : State} {c : Instr} (hp : s.powered = true) (hfl : s.gate.flightOf f.turbine = some f)
    (h : (∃ a, c = .segmentSample f.turbine .idle a ∧ s1 = s ∧ inSending s.gate.modeIn ∧
        (a - s.commandedBias f.turbine).natAbs ≤ s.planner.params.settleTol) ∨
      (c = .simulatedSettleExpiry f.turbine ∧ f.simulated = true ∧ s1 = s.elapse (f.expires - s.clock))) :
    exec c s = .next (s1.settle f) ∧ timePassed s s1 := by
  rcases h with ⟨a, rfl, rfl, hm, htol⟩ | ⟨rfl, hsim, rfl⟩
  · exact ⟨(exec_segmentSample_flight hp hfl hm .idle a).trans (congrArg _ (if_pos htol)), timePassed_refl _⟩
  · exact ⟨exec_simulatedSettleExpiry hp hfl hsim, timePassed_elapse _ _⟩

/-- A segment failed by a sample, or by its timeout (R124, R125). -/
theorem exec_fails {s1 : State} {c : Instr} {cause : FinishCause} (hp : s.powered = true)
    (hfl : s.gate.flightOf f.turbine = some f)
    (h : (∃ a, c = .segmentSample f.turbine .fault a ∧ s1 = s ∧ inSending s.gate.modeIn ∧ cause = .yawFault) ∨
      (∃ a, c = .segmentSample f.turbine .locked a ∧ s1 = s ∧ inSending s.gate.modeIn ∧ cause = .locked) ∨
      (c = .timeoutExpiry f.turbine ∧ f.simulated = false ∧ s1 = s.elapse (f.expires - s.clock) ∧ cause = .timeout)) :
    exec c s = .next (s1.fail f cause) ∧ timePassed s s1 := by
  rcases h with ⟨a, rfl, rfl, hm, rfl⟩ | ⟨a, rfl, rfl, hm, rfl⟩ | ⟨rfl, hsim, rfl, rfl⟩
  · exact ⟨exec_segmentSample_flight hp hfl hm .fault a, timePassed_refl _⟩
  · exact ⟨exec_segmentSample_flight hp hfl hm .locked a, timePassed_refl _⟩
  · exact ⟨exec_timeoutExpiry hp hfl hsim, timePassed_elapse _ _⟩

theorem settleOutcome_target (fate : Fate) : settleOutcome fate true = some (.settled, none) := rfl

/-- What a settle makes of a record that it does not make READY again, by target and fate (R122). -/
theorem settleOutcome_finished {fate : Fate} {b : Bool} {st : RecordState} {cause : Option FinishCause}
    (h : settleOutcome fate b = some (st, cause)) : st.finished = true ∧ (b = true → st = .settled ∧ cause = none) ∧
      (b = false → (fate ≠ .own ∧ fate ≠ .urgent) ∧ (fate = .superseded → st = .superseded ∧ cause = none) ∧
        (fate = .aborted → st = .cancelled ∧ cause = some .abort)) := by
  cases b <;> cases fate <;> cases h <;> simp [RecordState.finished]

theorem settleOutcome_ready {fate : Fate} {b : Bool} (h : settleOutcome fate b = none) : fate = .own ∨ fate = .urgent := by
  cases b <;> cases fate <;> cases h <;> simp

/-- Settles O43. -/
theorem segmentsSettleOrFail : Obligations.SegmentsSettleOrFail := by
  refine ⟨fun s i y a hp hno => ?_, fun s f r c s1 hp hfl hr => ⟨fun hset => ?_, fun cause hfail => ?_, fun a hno => ?_⟩⟩
  · refine exec_segmentSample_unused hp ?_ y a
    rw [Gate.flightOf, List.find?_eq_none]
    exact fun x hx => by simpa using hno x hx
  · obtain ⟨hexec, hpassed⟩ := exec_settles hp hfl hset
    clear hset
    have hring : s1.gate.ring = s.gate.ring := by rw [hpassed]
    have hflights : s1.gate.flights = s.gate.flights := by rw [hpassed]
    have hcomponents : s1.gate.components = s.gate.components := by rw [hpassed]
    have hcomponent : s1.gate.component f.turbine = s.gate.component f.turbine := by rw [hpassed]; rfl
    have hnormal : s1.gate.normalQueue = s.gate.normalQueue := by rw [hpassed]
    have hurgent : s1.gate.urgentQueue = s.gate.urgentQueue := by rw [hpassed]
    have hfleet : s1.fleet = s.fleet := by rw [hpassed]
    have hreports : s1.reports = s.reports := by rw [hpassed]
    have hnotices : s1.notices = s.notices := by rw [hpassed]
    have hr1 : s1.gate.record f.record = some r := by rw [hpassed]; exact hr
    rw [← hring, ← hflights, ← hcomponents, ← hcomponent, ← hnormal, ← hurgent, ← hfleet, ← hreports, ← hnotices]
    clear hring hflights hcomponents hcomponent hnormal hurgent hfleet hreports hnotices
    cases ho : settleOutcome f.fate (s1.gate.component f.turbine == r.target) with
    | none =>
      have hready := State.settle_ready hr1 ho
      have hshort : ¬ s1.gate.component f.turbine = r.target := fun h => by
        rw [beq_iff_eq.mpr h, settleOutcome_target] at ho
        cases ho
      have hfate : f.fate = .own ∨ f.fate = .urgent := settleOutcome_ready ho
      rw [hready, State.onGate, Gate.setQueue_eq] at hexec
      refine ⟨_, hexec, rfl, rfl, rfl, rfl, rfl, fun h => absurd h hshort, fun p _ h => absurd h hshort, fun _ h => absurd h hshort,
        fun _ _ => ⟨rfl, rfl, rfl, rfl, fun hc => ?_, fun hc => ?_⟩, fun _ hf => ?_, fun _ hf => ?_⟩
      · simp only [hc]
        exact ⟨rfl, rfl⟩
      · simp only [hc]
        exact ⟨rfl, rfl⟩
      · rcases hfate with h | h <;> rw [h] at hf <;> cases hf
      · rcases hfate with h | h <;> rw [h] at hf <;> cases hf
    | some outcome =>
      obtain ⟨st, cause⟩ := outcome
      obtain ⟨hfin, htarget, hshort⟩ := settleOutcome_finished ho
      have hsettle := State.settle_finished hr1 ho
      obtain ⟨E, hE⟩ : ∃ E : MoveRecord → MoveRecord, E = fun x => { x with
        done := x.done + 1, state := st, cause := cause, finishTime := some s1.now, segmentTarget := none, grantTime := none } :=
          ⟨_, rfl⟩
      rw [← hE] at hsettle
      have hF : finishes E := by
        rw [hE]
        exact fun x => ⟨rfl, rfl, rfl, hfin⟩
      have hframe := State.recordFinished_frame { r with done := r.done + 1 } .settled (s1.segmentEnded f E)
      rw [← hsettle] at hframe
      have hring : (s1.settle f).gate.ring = changeRecord f.record E s1.gate.ring := by
        rw [hframe]
        rfl
      refine ⟨_, hexec, ?_, ?_, ?_, ?_, ?_, fun h => ?_, fun p hc h hi hnum => ⟨fun hun => ?_, fun hw hall => ?_⟩, fun hc h => ?_,
        fun h hfate => ?_, fun h hfate => ?_, fun h hfate => ?_⟩
      · rw [hframe]
        rfl
      · rw [hframe]
        rfl
      · rw [hframe]
        rfl
      · rw [hframe]
        rfl
      · rw [hframe]
        rfl
      · obtain ⟨rfl, rfl⟩ := htarget (beq_iff_eq.mpr h)
        rw [hring, hE]
        rfl
      · rw [hsettle, (State.recordFinished_changed (s := s1.segmentEnded f E) (r := { r with done := r.done + 1 })
          hF rfl hc hi hnum .settled).1 hun]
        exact ⟨hi, rfl, rfl⟩
      · rw [hsettle, (State.recordFinished_changed (s := s1.segmentEnded f E) (r := { r with done := r.done + 1 })
          hF rfl hc hi hnum .settled).2 hw hall,
          State.completePlan_eq]
        exact ⟨rfl, rfl, rfl, rfl⟩
      · rw [hsettle, State.recordFinished_changed_urgent (s := s1.segmentEnded f E) (r := { r with done := r.done + 1 })
          hF rfl hc .settled]
        exact ⟨rfl, rfl, rfl⟩
      · exact absurd hfate (not_or.mpr (hshort (beq_eq_false_iff_ne.mpr h)).1)
      · obtain ⟨rfl, rfl⟩ := (hshort (beq_eq_false_iff_ne.mpr h)).2.1 hfate
        rw [hring, hE]
        rfl
      · obtain ⟨rfl, rfl⟩ := (hshort (beq_eq_false_iff_ne.mpr h)).2.2 hfate
        rw [hring, hE]
        rfl
  · obtain ⟨hexec, hpassed⟩ := exec_fails hp hfl hfail
    clear hfail
    have hring : s1.gate.ring = s.gate.ring := by rw [hpassed]
    have hflights : s1.gate.flights = s.gate.flights := by rw [hpassed]
    have hcomponents : s1.gate.components = s.gate.components := by rw [hpassed]
    have hnormal : s1.gate.normalQueue = s.gate.normalQueue := by rw [hpassed]
    have hurgent : s1.gate.urgentQueue = s.gate.urgentQueue := by rw [hpassed]
    have hplanner : s1.planner = s.planner := by rw [hpassed]
    have hreports : s1.reports = s.reports := by rw [hpassed]
    have hnotices : s1.notices = s.notices := by rw [hpassed]
    have hr1 : s1.gate.record f.record = some r := by rw [hpassed]; exact hr
    rw [← hring, ← hflights, ← hcomponents, ← hnormal, ← hurgent, ← hplanner, ← hreports, ← hnotices]
    clear hring hflights hcomponents hnormal hurgent hplanner hreports hnotices
    obtain ⟨rest, hframe, hturbines, hkeep⟩ := failureFollows_fail hr1 cause
    obtain ⟨u, hu⟩ : ∃ u, u = s1.fail f cause := ⟨_, rfl⟩
    rw [← hu] at hexec hframe hturbines hkeep
    have hnotices : u.notices = (s1.segmentFailed f cause).notices ++ rest := by rw [hframe]
    have hrest : ∀ l, u.notices = (s1.segmentFailed f cause).notices ++ l → rest = l := fun l hl =>
      List.append_cancel_left (hnotices.symm.trans hl)
    have hF := finishes_failedAt cause s1.now
    obtain ⟨hmem, hseq⟩ := Gate.mem_of_record hr1
    refine ⟨u, rest, hexec, ?_, ?_, ?_, hturbines, ?_, ?_, ⟨failedAt cause s1.now r, hkeep _ ?_ rfl, hseq, rfl, rfl, rfl, rfl⟩,
      fun hfate => ?_, fun hfate => ?_, fun hfate => ?_, fun p hfate hi hl => ?_, fun p hfate hi hl => ?_⟩
    · rw [hframe]
      rfl
    · rw [hframe]
      rfl
    · rw [hframe]
      rfl
    · rw [hframe]
      exact congrArg TurbineDynamic.availability (Fleet.setDynamic_dynamic_same ..)
    · rw [hnotices]
      exact List.append_assoc _ _ _
    · exact List.mem_map.mpr ⟨r, hmem, if_pos hseq⟩
    · have hsame : u.gate = (s1.segmentFailed f cause).gate ∧ u.notices = (s1.segmentFailed f cause).notices := by
        cases hf : f.fate with
        | own => exact absurd hf hfate
        | urgent => rw [hu, State.fail_urgent hr1 hf]; exact ⟨rfl, rfl⟩
        | superseded => rw [hu, State.fail_other hr1 (.inl hf)]; exact ⟨rfl, rfl⟩
        | aborted => rw [hu, State.fail_other hr1 (.inr hf)]; exact ⟨rfl, rfl⟩
      rw [hsame.1]
      exact ⟨rfl, hrest [] (by rw [hsame.2, List.append_nil]), rfl⟩
    · rw [hu, State.fail_other hr1 hfate]
      rfl
    · rw [hu, State.fail_urgent hr1 hfate]
      exact congrArg (_ ++ ·) (ite_congr (propext (urgentUnfinished_changeRecord hF (State.segmentFailed_ring f cause s1)))
        (fun _ => rfl) (fun _ => rfl))
    · rw [State.fail_own hr1 hfate, State.chargeFailure_below (s := s1.segmentFailed f cause) hi hl] at hu
      obtain ⟨v, hv⟩ : ∃ v : State, v = { s1.segmentFailed f cause with
        gate := { (s1.segmentFailed f cause).gate with installed := some { p with failures := p.failures + 1 } }
        notices := (s1.segmentFailed f cause).notices ++ [.failure p.number (p.failures + 1)] } := ⟨_, rfl⟩
      rw [← hv] at hu
      have hvi : v.gate.installed = some { p with failures := p.failures + 1 } := by rw [hv]
      have hvring : v.gate.ring = changeRecord f.record (failedAt cause s1.now) s1.gate.ring := by rw [hv]; rfl
      refine ⟨?_, fun hun => ?_, fun hw hall => ?_⟩
      · rw [hu, State.testCompletion_frame]
        exact hvring
      · rw [State.testCompletion_kept hvi (by rw [hvring, unfinished_changeRecord hF]; exact hun), hv] at hu
        refine ⟨?_, ?_, hrest _ ?_⟩ <;> rw [hu]
        rfl
      · rw [State.testCompletion_done hvi hw (by rw [hvring, planFinished_changeRecord hF]; exact hall), State.completePlan_eq, hv] at hu
        refine ⟨?_, ?_, ?_, hrest _ ?_⟩ <;> rw [hu]
        · rfl
        · exact List.append_assoc _ _ _
    · rw [State.fail_own hr1 hfate, State.chargeFailure_limit (s := s1.segmentFailed f cause) hi hl, State.abortPlan_eq,
        Gate.finishWaiting_eq] at hu
      refine ⟨?_, ?_, ?_, hrest _ ?_, ?_, ?_, fun gone hgone => ?_⟩
      · rw [hu]
      · rw [hu]
      · rw [hu]
        rfl
      · rw [hu]
      · rw [hu]
        rfl
      · rw [hu]
        exact abortedRing_failed p.number
      · have hgone : ∀ g : Gate, g.ring = changeRecord f.record (failedAt cause s1.now) s1.gate.ring →
            g.waitingNumbers p.number = gone := fun g hg => (waitingNumbers_failed hg p.number).trans hgone.symm
        rw [hu, hgone _ rfl]
        exact ⟨rfl, rfl⟩
  · rcases hno with rfl | ⟨rfl, htol⟩ | ⟨⟨y, rfl⟩, hm⟩
    · by_cases hm : inSending s.gate.modeIn
      · exact exec_segmentSample_flight hp hfl hm .running a
      · exact exec_segmentSample_resting hp hm _ _ _
    · by_cases hm : inSending s.gate.modeIn
      · exact (exec_segmentSample_flight hp hfl hm .idle a).trans (congrArg _ (if_neg (Nat.not_le.mpr htol)))
      · exact exec_segmentSample_resting hp hm _ _ _
    · exact exec_segmentSample_resting hp hm _ _ _

end Sys2Proof.Machine
end

/-! PROOFS. The refresh of section 8.4 (R140, R141): a refresh submitted as the rewriting of its timer behind an egress effect,
the wait list served behind a busy transmitter by induction on the list, and the statement about the expiry and the room
event. -/

section
namespace Sys2Proof.Machine

variable {s : State} {i a d : Nat}

/-- The telegram of a refresh of turbine `x.1` queued after `x.2` others (R38, R140). -/
def State.refreshEntry (s : State) (x : Nat × Nat) : Injection :=
  ⟨.normal, buildFrame (BitVec.allOnes 48) Config.stationAddress s.line.typeValue
    { dest := (s.fleet.static x.1).address.getD 0, source := s.line.node, kind := 2, flags := 0#8
      sequence := s.line.sequence + BitVec.ofNat 8 x.2, tag := none
      body := i16 (s.commandedBias x.1) ++ [1#8] }⟩

theorem State.injectionFull_false (h : s.line.injections.length < 32) : s.line.injectionFull = false :=
  decide_eq_false (Nat.not_le.mpr h)

theorem State.injectionFull_true (h : 32 ≤ s.line.injections.length) : s.line.injectionFull = true :=
  decide_eq_true h

/-- The commanded bias does not move with the clock (R134). -/
theorem State.commandedBias_elapse (n : Nat) (s : State) : (s.elapse n).commandedBias i = s.commandedBias i := by
  have h : (s.elapse n).gate.components = s.gate.components := by
    obtain ⟨-, -, -, -, hcomponents, -⟩ := Gate.elapse_frame n s.gate
    exact hcomponents
  simp only [State.commandedBias, Gate.component, h, State.elapse_planner, State.elapse_upkeep]

/-- A submission behind a busy transmitter only queues the telegram (R30, R38). -/
theorem State.submitBias_busy (cls : MoveClass) (ha : (s.fleet.static i).address = some a) (hm : s.line.modeIn ≠ .off)
    (hl : s.line.injections.length < 32) (hbusy : s.line.fPort.transmission.isSome = true) :
    s.submitBias cls i = { s with line := { s.line with
      sequence := s.line.sequence + 1#8
      injections := joinInjections ⟨cls, s.biasFrame a (s.commandedBias i)⟩ s.line.injections } } :=
  (portActs_submitBias cls ha hm hl).1 (Option.isSome_iff_ne_none.mp hbusy)

/-! ### A refresh submitted -/

theorem State.restartRefresh_same (s : State) :
    (s.restartRefresh i).upkeep.refresh.get none i = some (s.clock + s.planner.params.refresh) :=
  Table.get_set_same ..

theorem State.restartRefresh_other {j : Nat} (hj : j ≠ i) (s : State) :
    (s.restartRefresh i).upkeep.refresh.get none j = s.upkeep.refresh.get none j :=
  Table.get_set_other _ _ hj _

/-- A submission leaves what the refresh timer is set from, so the timers stand as if the telegram had not been queued
first. -/
theorem State.submitBias_restartRefresh (cls : MoveClass) (s : State) :
    ((s.submitBias cls i).restartRefresh i).upkeep = (s.restartRefresh i).upkeep ∧
      (s.submitBias cls i).clock = s.clock ∧ (s.submitBias cls i).powered = s.powered := by
  have h := onlyEgress_submitBias cls i s
  unfold onlyEgress at h
  rw [h]
  exact ⟨rfl, rfl, rfl⟩

theorem State.submitRefresh_upkeep (s : State) : (s.submitRefresh i).upkeep = (s.restartRefresh i).upkeep :=
  (State.submitBias_restartRefresh .normal s).1

theorem exec_refreshExpiry (hp : s.powered = true) (hd : s.upkeep.refresh.get none i = some d) :
    exec (.refreshExpiry i) s = .next ((s.elapse (d - s.clock)).refreshExpired i) := by
  refine (State.event_powered hp).trans ?_
  rw [hd]
  exact congrArg _ (State.expire_running ..)

theorem exec_refreshExpiry_room (hp : s.powered = true) (hd : s.upkeep.refresh.get none i = some d)
    (hl : s.line.injections.length < 32) :
    exec (.refreshExpiry i) s = .next ((s.elapse (d - s.clock)).submitRefresh i) := by
  rw [exec_refreshExpiry hp hd, State.refreshExpired,
    if_neg (by rw [State.injectionFull_false (s := s.elapse _) hl]; exact Bool.false_ne_true)]

theorem exec_roomEvent (hp : s.powered = true) (hm : inSending s.upkeep.modeIn) :
    exec .roomEvent s = .next ((s.arrive .roomEvent).serveWaiting s.upkeep.waitList) :=
  (State.reported_powered hp).trans (congrArg _ (if_pos (sending_iff.mpr hm)))

/-- A room event serves the head of the wait list and goes on as a room event in the state that leaves (R141). -/
theorem exec_roomEvent_head {rest : List Nat} (hp : s.powered = true) (hm : inSending s.upkeep.modeIn)
    (hw : s.upkeep.waitList = i :: rest) (hl : s.line.injections.length < 32) :
    exec .roomEvent s = .next (((s.arrive .roomEvent).submitRefresh i).serveWaiting rest) := by
  rw [exec_roomEvent hp hm, hw, State.serveWaiting,
    if_neg (by rw [State.injectionFull_false (s := s.arrive .roomEvent) hl]; exact Bool.false_ne_true)]

/-- A room event serves nothing with no refresh waiting, with no room, and while nothing is sent (R141). -/
theorem State.roomTaken_idle (h : s.upkeep.waitList = [] ∨ 32 ≤ s.line.injections.length ∨ ¬ inSending s.upkeep.modeIn) :
    s.roomTaken = s := by
  unfold State.roomTaken
  by_cases hm : inSending s.upkeep.modeIn
  · rw [if_pos (sending_iff.mpr hm)]
    cases hw : s.upkeep.waitList with
    | nil => rfl
    | cons i rest =>
      rcases h with h | h | h
      · rw [hw] at h
        cases h
      · exact if_pos (State.injectionFull_true h)
      · exact absurd hm h
  · exact if_neg fun h => hm (sending_iff.mp h)

/-- A room event reported ahead of the others leaves these as it is taken. -/
theorem exec_roomEvent_again (hp : s.powered = true) (hm : inSending s.upkeep.modeIn) :
    exec .roomEvent { s with reports := .roomEvent :: s.reports } = .next (s.serveWaiting s.upkeep.waitList) := by
  have harrive : State.arrive .roomEvent { s with reports := .roomEvent :: s.reports } = s := by
    simp [State.arrive]
  exact (exec_roomEvent (s := { s with reports := .roomEvent :: s.reports }) hp hm).trans
    (congrArg (fun u => Host.Outcome.next (State.serveWaiting s.upkeep.waitList u)) harrive)

/-! ### The wait list behind a busy transmitter -/

theorem sequence_succ (v : BitVec 8) (n : Nat) : v + 1#8 + BitVec.ofNat 8 n = v + BitVec.ofNat 8 (n + 1) := by
  rw [BitVec.ofNat_add, BitVec.add_assoc, BitVec.add_comm 1#8]

/-- The next telegram of a busy F-port is numbered one further than before the first was queued. -/
theorem refreshEntry_succ {t : State} (hf : t.fleet = s.fleet) (hb : ∀ j, t.commandedBias j = s.commandedBias j)
    (hline : t.line.typeValue = s.line.typeValue ∧ t.line.node = s.line.node ∧ t.line.sequence = s.line.sequence + 1#8)
    (x : Nat × Nat) : t.refreshEntry x = s.refreshEntry (x.1, x.2 + 1) := by
  obtain ⟨htype, hnode, hseq⟩ := hline
  simp only [State.refreshEntry, hf, hb, htype, hnode, hseq, sequence_succ]

theorem State.refreshEntry_zero (ha : (s.fleet.static i).address = some a) :
    s.refreshEntry (i, 0) = ⟨.normal, s.biasFrame a (s.commandedBias i)⟩ := by
  simp only [State.refreshEntry, ha, BitVec.add_zero, Option.getD_some]
  rfl

/-- A refresh submitted behind a busy transmitter (R140). -/
theorem State.submitRefresh_busy (ha : (s.fleet.static i).address = some a) (hm : s.line.modeIn ≠ .off)
    (hl : s.line.injections.length < 32) (hbusy : s.line.fPort.transmission.isSome = true) :
    s.submitRefresh i = { s with
      upkeep := (s.restartRefresh i).upkeep
      line := { s.line with
        sequence := s.line.sequence + 1#8, injections := s.line.injections ++ [s.refreshEntry (i, 0)] } } := by
  rw [State.submitRefresh, State.submitBias_busy .normal ha hm hl hbusy, State.refreshEntry_zero ha]
  rfl

/-- How far the wait list is served: `k` refreshes, as many as the queue has room for. -/
structure ServedTo (k : Nat) (waiting : List Nat) (s t : State) : Prop where
  frame : t = { s with line := t.line, upkeep := t.upkeep }
  line : t.line = { s.line with
    sequence := s.line.sequence + BitVec.ofNat 8 k
    injections := s.line.injections ++ (waiting.take k).zipIdx.map s.refreshEntry }
  waitList : t.upkeep.waitList = waiting.drop k
  bias : t.upkeep.controllerBias = s.upkeep.controllerBias
  mode : t.upkeep.modeIn = s.upkeep.modeIn
  timers : ∀ j, t.upkeep.refresh.get none j =
    if j ∈ waiting.take k then some (s.clock + s.planner.params.refresh) else s.upkeep.refresh.get none j

theorem servedTo_zero {waiting : List Nat} (hw : s.upkeep.waitList = waiting) : ServedTo 0 waiting s s where
  frame := rfl
  line := by simp
  waitList := hw
  bias := rfl
  mode := rfl
  timers j := (if_neg List.not_mem_nil).symm

/-- One refresh submitted, and then `k` more. -/
theorem ServedTo.cons {k : Nat} {rest : List Nat} {t : State} (ha : (s.fleet.static i).address = some a)
    (hm : s.line.modeIn ≠ .off) (hl : s.line.injections.length < 32) (hbusy : s.line.fPort.transmission.isSome = true)
    (hfresh : i ∉ rest) (h : ServedTo k rest (s.submitRefresh i) t) : ServedTo (k + 1) (i :: rest) s t := by
  rw [State.submitRefresh_busy ha hm hl hbusy] at h
  obtain ⟨u, hu⟩ : ∃ u : State, u = { s with
      upkeep := (s.restartRefresh i).upkeep
      line := { s.line with
        sequence := s.line.sequence + 1#8, injections := s.line.injections ++ [s.refreshEntry (i, 0)] } } := ⟨_, rfl⟩
  rw [← hu] at h
  have hentry : ∀ x, u.refreshEntry x = s.refreshEntry (x.1, x.2 + 1) :=
    refreshEntry_succ (by rw [hu]) (fun j => by rw [hu]; rfl) (by rw [hu]; exact ⟨rfl, rfl, rfl⟩)
  refine ⟨?_, ?_, ?_, ?_, ?_, fun j => ?_⟩
  · rw [h.frame, hu]
  · have hqueue : ((i :: rest).take (k + 1)).zipIdx.map s.refreshEntry =
        s.refreshEntry (i, 0) :: (rest.take k).zipIdx.map u.refreshEntry := by
      rw [List.take_succ_cons, List.zipIdx_cons, List.map_cons, List.zipIdx_succ, List.map_map]
      exact congrArg _ (List.map_congr_left fun x _ => (hentry x).symm)
    rw [h.line, hqueue, hu, ← sequence_succ s.line.sequence k, List.append_assoc]
    rfl
  · exact h.waitList
  · rw [h.bias, hu]
    rfl
  · rw [h.mode, hu]
    rfl
  · rw [h.timers j, List.take_succ_cons, hu]
    by_cases hj : j = i
    · subst hj
      rw [if_neg fun hmem => hfresh (List.mem_of_mem_take hmem), if_pos List.mem_cons_self]
      exact State.restartRefresh_same s
    · have hmem : j ∈ i :: rest.take k ↔ j ∈ rest.take k := by simp [hj]
      rw [ite_congr (propext hmem) (fun _ => rfl) (fun _ => (State.restartRefresh_other hj s).symm)]

/-- Behind a busy transmitter the wait list is served from its head as far as the injection queue has room (R141). -/
theorem State.serveWaiting_busy (waiting : List Nat) {s : State} {k : Nat} (hm : s.line.modeIn ≠ .off)
    (hbusy : s.line.fPort.transmission.isSome = true) (hnodup : waiting.Nodup)
    (haddr : ∀ j ∈ waiting, (s.fleet.static j).address ≠ none) (hw : s.upkeep.waitList = waiting)
    (hk : k = min (32 - s.line.injections.length) waiting.length) :
    ServedTo k waiting s (s.serveWaiting waiting) := by
  induction waiting generalizing s k with
  | nil =>
    obtain rfl : k = 0 := by simpa using hk
    exact servedTo_zero hw
  | cons i rest ih =>
    by_cases hl : s.line.injections.length < 32
    · obtain ⟨a, ha⟩ := Option.ne_none_iff_exists'.mp (haddr i List.mem_cons_self)
      obtain ⟨hfresh, hrest⟩ := List.nodup_cons.mp hnodup
      have hs1 := State.submitRefresh_busy ha hm hl hbusy
      obtain ⟨m, hkm⟩ : ∃ m, k = m + 1 ∧ m = min (32 - (s.line.injections.length + 1)) rest.length :=
        ⟨_, by rw [hk, List.length_cons]; omega, rfl⟩
      obtain ⟨rfl, hm1⟩ := hkm
      rw [State.serveWaiting, if_neg (by rw [State.injectionFull_false hl]; exact Bool.false_ne_true)]
      refine ServedTo.cons ha hm hl hbusy hfresh (ih ?_ ?_ hrest ?_ ?_ ?_)
      · rw [hs1]
        exact hm
      · rw [hs1]
        exact hbusy
      · rw [hs1]
        exact fun j hj => haddr j (List.mem_cons_of_mem _ hj)
      · rw [State.submitRefresh_upkeep]
        exact (congrArg (List.erase · i) hw).trans (List.erase_cons_head ..)
      · rw [hs1, hm1]
        exact congrArg (fun n => min (32 - n) rest.length) (List.length_append (bs := [_])).symm
    · obtain rfl : k = 0 := by rw [hk]; omega
      rw [State.serveWaiting, if_pos (State.injectionFull_true (Nat.not_lt.mp hl))]
      exact servedTo_zero hw

/-! ### The statement -/

/-- A refresh timer's expiry behind a queue with room (R140). -/
theorem refreshExpiry_submits {e : Injection} (hp : s.powered = true) (ha : (s.fleet.static i).address = some a)
    (hm : s.line.modeIn ≠ .off) (hl : s.line.injections.length < 32)
    (he : e = ⟨.normal, s.biasFrame a (s.commandedBias i)⟩) (hd : s.upkeep.refresh.get none i = some d) :
    ∃ x t, portActs .fPort { s.elapse (d - s.clock) with line := { (s.elapse (d - s.clock)).line with
        sequence := s.line.sequence + 1#8, injections := s.line.injections ++ [e] } } x ∧
      exec (.refreshExpiry i) s = .next t ∧ t = { x with upkeep := t.upkeep } ∧
      x.clock = s.clock + (d - s.clock) ∧
      t.upkeep.refresh.get none i = some (t.clock + s.planner.params.refresh) ∧
      (∀ j, j ≠ i → t.upkeep.refresh.get none j = s.upkeep.refresh.get none j) ∧
      t.upkeep.waitList = s.upkeep.waitList.erase i ∧ t.upkeep.controllerBias = s.upkeep.controllerBias ∧
      t.upkeep.modeIn = s.upkeep.modeIn := by
  obtain ⟨hup, hclock, -⟩ := State.submitBias_restartRefresh (i := i) .normal (s.elapse (d - s.clock))
  have hacts := portActs_submitBias (s := s.elapse (d - s.clock)) .normal ha hm hl
  rw [State.commandedBias_elapse] at hacts
  refine ⟨_, _, ?_, exec_refreshExpiry_room hp hd hl, rfl, hclock, ?_, fun j hj => ?_, ?_, ?_, ?_⟩
  · rw [he]
    exact hacts
  · refine (congrArg (fun u : Upkeep => u.refresh.get none i) hup).trans ?_
    exact (State.restartRefresh_same _).trans (congrArg (fun c => some (c + s.planner.params.refresh)) hclock.symm)
  · exact (congrArg (fun u : Upkeep => u.refresh.get none j) hup).trans (State.restartRefresh_other hj _)
  · exact congrArg Upkeep.waitList hup
  · exact (congrArg Upkeep.controllerBias hup :)
  · exact (congrArg Upkeep.modeIn hup :)

/-- Settles O48: the expiry by the submission's two effects, the wait list behind a busy transmitter by induction on the list,
and a departure at once by the recursion of the serving. -/
theorem refreshIsSubmittedOrWaits : Obligations.RefreshIsSubmittedOrWaits := by
  unfold Obligations.RefreshIsSubmittedOrWaits
  refine ⟨fun s i a e hp ha hm hbusy he => ⟨fun d hd hl => ?_, fun hw hl hsend => ?_⟩, fun s i d hp hd hfull => ?_,
    fun s hp hno => ?_, fun s k hp hsend hm hbusy hnodup haddr hk => ?_,
    fun s i a e hp ha hm hl he => ⟨fun d s1 hd hs1 => ?_, fun rest hw hsend => ?_⟩⟩
  · obtain ⟨x, t, hacts, hexec, ht, hclock, htimer, hother, hwait, hbias, -⟩ := refreshExpiry_submits hp ha hm hl he hd
    have hx := hacts.1 (Option.isSome_iff_ne_none.mp (show (s.line.fPort.elapse _).transmission.isSome = true from hbusy))
    have hline := congrArg State.line (ht.trans (by rw [hx]))
    refine ⟨t, hexec, (congrArg State.clock ht).trans hclock, ?_, ?_, htimer, hother, hwait, hbias⟩
    · rw [hline]
    · rw [hline]
  · rw [exec_roomEvent_head hp hsend hw hl]
    obtain ⟨u, hu⟩ : ∃ u, u = s.arrive .roomEvent := ⟨_, rfl⟩
    rw [← hu]
    have hbusy1 := State.submitRefresh_busy (s := u) (by rw [hu]; exact ha) (by rw [hu]; exact hm) (by rw [hu]; exact hl)
      (by rw [hu]; exact hbusy)
    refine ⟨_, rfl, ?_, ?_, ?_, ?_, ?_⟩ <;> rw [State.serveWaiting]
    · rw [hbusy1, State.refreshEntry_zero (s := u) (by rw [hu]; exact ha), he, hu]
      rfl
    · rw [State.submitRefresh_upkeep, hu]
      exact (congrArg (List.erase · i) hw).trans (List.erase_cons_head ..)
    · rw [State.submitRefresh_upkeep, hu]
      exact State.restartRefresh_same _
    · rw [hbusy1, hu]
      rfl
    · rw [hbusy1, hu]
      rfl
  · refine ⟨_, (exec_refreshExpiry hp hd).trans (congrArg _ (if_pos (State.injectionFull_true hfull))), rfl, ?_, fun j hj => ?_⟩
    · exact Table.get_set_same ..
    · exact Table.get_set_other _ _ hj _
  · refine (State.reported_powered hp).trans (congrArg Host.Outcome.next (State.roomTaken_idle ?_))
    exact hno
  · rw [exec_roomEvent hp hsend]
    have h := State.serveWaiting_busy s.upkeep.waitList (s := s.arrive .roomEvent) hm hbusy hnodup haddr rfl hk
    exact ⟨_, rfl, h.frame, h.line, h.waitList, h.bias, h.mode, h.timers⟩
  · obtain ⟨x, t, hacts, hexec, ht, -, hrest⟩ := refreshExpiry_submits hp ha hm hl he hd
    rw [hs1]
    exact ⟨x, t, hacts, hexec, ht, hrest⟩
  · obtain ⟨v, hv⟩ : ∃ v, v = (s.arrive .roomEvent).submitBias .normal i := ⟨_, rfl⟩
    obtain ⟨hup, hclock, hpow⟩ := State.submitBias_restartRefresh (i := i) .normal (s.arrive .roomEvent)
    rw [← hv] at hup hclock hpow
    refine ⟨v, { v.restartRefresh i with reports := .roomEvent :: v.reports }, ?_, rfl, ?_, ?_, fun j hj => ?_, ?_, ?_, ?_⟩
    · rw [hv, he]
      exact portActs_submitBias (s := s.arrive .roomEvent) .normal ha hm hl
    · exact (congrArg Upkeep.waitList hup).trans ((congrArg (List.erase · i) hw).trans (List.erase_cons_head ..))
    · exact (congrArg (fun u : Upkeep => u.refresh.get none i) hup).trans (State.restartRefresh_same _)
    · exact (congrArg (fun u : Upkeep => u.refresh.get none j) hup).trans (State.restartRefresh_other hj _)
    · exact (congrArg Upkeep.controllerBias hup :)
    · exact (congrArg Upkeep.modeIn hup :)
    · have hmode : (v.restartRefresh i).upkeep.modeIn = s.upkeep.modeIn := (congrArg Upkeep.modeIn hup :)
      have hwait : (v.restartRefresh i).upkeep.waitList = rest :=
        (congrArg Upkeep.waitList hup).trans ((congrArg (List.erase · i) hw).trans (List.erase_cons_head ..))
      have hagain := exec_roomEvent_again (s := v.restartRefresh i) (hpow.trans hp) (by rw [hmode]; exact hsend)
      rw [hwait] at hagain
      refine (exec_roomEvent_head hp hsend hw hl).trans (Eq.trans ?_ hagain.symm)
      rw [hv]
      rfl

end Sys2Proof.Machine
end

/-! PROOFS. The scan of section 7.4 (R117-R119): what the arbiter does with one record (`State.reach`), the walk of a queue as
one record and then the others, the records that a walk does not reach as a change of the queues with which it commutes
(`State.requeue`), and the statement that a scan skips, passes over or stops. -/

section
namespace Sys2Proof.Machine

variable {s : State} {q : Nat} {r : MoveRecord} {c : FinishCause}

/-! ### One record of a walk -/

/-- What a scan does with a record as it is judged: the state after, and whether the scan goes on (R117-R119). -/
def State.carryOut (r : MoveRecord) (s : State) : Verdict → State × Bool
  | .skip c => (s.skipRecord r c, true)
  | .passOver => (s, true)
  | .await => (s.onGate fun g => { g with scanDue := true }, true)
  | .stop => (s, false)
  | .grant => (s.grant r, true)

/-- What a scan does with the record of one number. -/
def State.reach (q : Nat) (s : State) : State × Bool :=
  match s.gate.record q with
  | none => (s, true)
  | some r => s.carryOut r (s.judge r)

theorem State.reach_of_record (hr : s.gate.record q = some r) : s.reach q = s.carryOut r (s.judge r) := by
  rw [State.reach, hr]

/-- A walk takes the record at its head and, unless the scan stops there, goes on with the others (R117). -/
theorem State.walk_cons (q : Nat) (qs : List Nat) (s : State) :
    s.walk (q :: qs) = if (s.reach q).2 = true then (s.reach q).1.walk qs else s.reach q := by
  rw [State.walk, State.reach]
  cases s.gate.record q with
  | none => rfl
  | some r => cases hj : s.judge r <;> simp only [hj, State.carryOut, if_true, Bool.false_eq_true, if_false]

theorem State.walk_singleton (q : Nat) (s : State) : s.walk [q] = s.reach q := by
  rw [State.walk_cons]
  split
  · next h => exact Prod.ext rfl h.symm
  · rfl

/-! ### The judgement of a record -/

/-- A scan skips the record of a turbine with a cause (R118). -/
theorem State.judge_skip (h : skipCause (s.fleet.dynamic r.turbine) = some c) : s.judge r = .skip c := by
  rw [State.judge, h]

theorem State.judge_healthy (h : skipCause (s.fleet.dynamic r.turbine) = none) : s.judge r =
    if s.gate.busy r.turbine then .passOver
    else if s.gate.budget r.cls ≤ s.gate.flights.length then .passOver
    else if r.cls = .normal ∧ s.gate.hold = true then .passOver
    else if s.gate.modeIn = .off then .await
    else if sending s.gate.modeIn ∧ s.line.injectionFull = true then .stop
    else .grant := by
  rw [State.judge, h]

/-- Nothing but a full injection queue and the mode withholds a record whose turbine is healthy and not busy, with a slot in
its class's budget and no hold against it (R119). -/
@[reducible] def State.free (s : State) (r : MoveRecord) : Prop :=
  s.gate.flightOf r.turbine = none ∧ s.gate.flights.length < s.gate.budget r.cls ∧ ¬ (r.cls = .normal ∧ s.gate.hold = true)

theorem State.judge_free (h : skipCause (s.fleet.dynamic r.turbine) = none) (hf : s.free r) : s.judge r =
    if s.gate.modeIn = .off then .await
    else if sending s.gate.modeIn ∧ s.line.injectionFull = true then .stop else .grant := by
  obtain ⟨hbusy, hslot, hhold⟩ := hf
  rw [State.judge_healthy h, if_neg (by rw [Gate.busy, hbusy]; exact Bool.false_ne_true), if_neg (Nat.not_le.mpr hslot),
    if_neg hhold]

theorem State.judge_passOver (h : skipCause (s.fleet.dynamic r.turbine) = none) (hf : ¬ s.free r) :
    s.judge r = .passOver := by
  rw [State.judge_healthy h]
  by_cases hbusy : s.gate.busy r.turbine = true
  · exact if_pos hbusy
  · rw [if_neg hbusy]
    by_cases hslot : s.gate.budget r.cls ≤ s.gate.flights.length
    · exact if_pos hslot
    · rw [if_neg hslot]
      refine if_pos (Classical.not_not.mp fun hhold => hf ⟨?_, Nat.not_le.mp hslot, hhold⟩)
      exact Option.not_isSome_iff_eq_none.mp hbusy

/-- The scan stops at a record that only the full injection queue withholds (R119). -/
theorem State.judge_stop_iff : s.judge r = .stop ↔ skipCause (s.fleet.dynamic r.turbine) = none ∧ s.free r ∧
    inSending s.gate.modeIn ∧ 32 ≤ s.line.injections.length := by
  cases hc : skipCause (s.fleet.dynamic r.turbine) with
  | some c => simp [State.judge_skip hc]
  | none =>
    by_cases hf : s.free r
    · rw [State.judge_free hc hf]
      have hfull : s.line.injectionFull = true ↔ 32 ≤ s.line.injections.length := decide_eq_true_iff
      by_cases hoff : s.gate.modeIn = .off
      · simp [hoff, inSending]
      · by_cases hstop : sending s.gate.modeIn = true ∧ s.line.injectionFull = true
        · simp only [if_neg hoff, if_pos hstop, true_and]
          exact iff_of_true trivial ⟨hf, sending_iff.mp hstop.1, hfull.mp hstop.2⟩
        · simp only [if_neg hoff, if_neg hstop, true_and]
          exact iff_of_false nofun fun ⟨_, hm, hl⟩ => hstop ⟨sending_iff.mpr hm, hfull.mpr hl⟩
    · rw [State.judge_passOver hc hf]
      exact iff_of_false nofun fun ⟨_, h, _⟩ => hf h

/-- The record that the scan may grant (R119), by its class. -/
theorem State.free_iff : s.free r ↔ s.gate.flightOf r.turbine = none ∧
    (r.cls = .urgent ∧ s.gate.flights.length < s.gate.urgentBudget ∨
      r.cls = .normal ∧ s.gate.hold = false ∧
        ∃ p, s.gate.installed = some p ∧ s.gate.flights.length < s.gate.budgets.getD p.pair.band 0) := by
  refine and_congr_right fun _ => ?_
  cases r.cls with
  | urgent => simp [Gate.budget]
  | normal =>
    cases hi : s.gate.installed with
    | none => simp [Gate.budget, Gate.normalBudget, hi]
    | some p => simp [Gate.budget, Gate.normalBudget, hi, and_comm]

/-- The scan stops at no record but one that the full injection queue withholds (R117, R119). -/
theorem State.reach_stops_iff : (s.reach q).2 = false ↔ ∃ r, s.gate.record q = some r ∧
    (s.fleet.dynamic r.turbine).availability = .online ∧
    (s.fleet.dynamic r.turbine).yaw ≠ some .locked ∧ (s.fleet.dynamic r.turbine).yaw ≠ some .fault ∧
    s.gate.flightOf r.turbine = none ∧
    (r.cls = .urgent ∧ s.gate.flights.length < s.gate.urgentBudget ∨
      r.cls = .normal ∧ s.gate.hold = false ∧
        ∃ p, s.gate.installed = some p ∧ s.gate.flights.length < s.gate.budgets.getD p.pair.band 0) ∧
    inSending s.gate.modeIn ∧ 32 ≤ s.line.injections.length := by
  cases hr : s.gate.record q with
  | none => simp [State.reach, hr]
  | some r =>
    have hstop : (s.reach q).2 = false ↔ s.judge r = .stop := by
      rw [State.reach_of_record hr]
      cases s.judge r <;> simp [State.carryOut]
    rw [hstop, State.judge_stop_iff, skipCause_none_iff, State.free_iff]
    simp [and_assoc]

theorem State.reach_stopped (h : (s.reach q).2 = false) : s.reach q = (s, false) := by
  obtain ⟨r, hr, -⟩ := State.reach_stops_iff.mp h
  rw [State.reach_of_record hr] at h ⊢
  cases hj : s.judge r <;> rw [hj] at h <;> simp [State.carryOut] at h ⊢

/-! ### The records behind -/

/-- The two ready queues and the cause for a scan changed, all else as it is. -/
def State.requeue (U N : List Nat → List Nat) (D : Bool → Bool) (s : State) : State :=
  { s with gate := { s.gate with
      urgentQueue := U s.gate.urgentQueue, normalQueue := N s.gate.normalQueue, scanDue := D s.gate.scanDue } }

variable {U N : List Nat → List Nat} {D : Bool → Bool}

theorem State.testCompletion_requeue (s : State) :
    (s.requeue U N D).testCompletion = s.testCompletion.requeue U N D := by
  unfold State.testCompletion
  have hi : (s.requeue U N D).gate.installed = s.gate.installed := rfl
  rw [hi]
  cases s.gate.installed with
  | none => rfl
  | some p =>
    dsimp only
    have hf : (s.requeue U N D).gate.planFinished p.number = s.gate.planFinished p.number := rfl
    rw [hf]
    split <;> rfl

theorem State.recordFinished_requeue (r : MoveRecord) (o : UrgentOutcome) (s : State) :
    (s.requeue U N D).recordFinished r o = (s.recordFinished r o).requeue U N D := by
  cases hc : r.cls with
  | normal =>
    by_cases hi : s.gate.installed.map (·.number) = some r.plan
    · have htest : ∀ v : State, v.gate.installed = s.gate.installed → v.recordFinished r o = v.testCompletion := by
        intro v hv
        rw [State.recordFinished, hc]
        exact if_pos (by rw [hv]; exact hi)
      rw [htest s rfl, htest (s.requeue U N D) rfl, State.testCompletion_requeue]
    · rw [State.recordFinished_other hc hi, State.recordFinished_other (s := s.requeue U N D) hc hi]
  | urgent =>
    rw [State.recordFinished_urgent hc, State.recordFinished_urgent hc]
    rfl

/-- A queue changed so that one record leaves it as it leaves the queue before. -/
@[reducible] def leavesAlike (q : Nat) (Q : List Nat → List Nat) : Prop := ∀ l : List Nat, (Q l).erase q = Q (l.erase q)

theorem State.skipRecord_requeue (hU : leavesAlike r.sequence U) (hN : leavesAlike r.sequence N) (c : FinishCause) (s : State) :
    (s.requeue U N D).skipRecord r c = (s.skipRecord r c).requeue U N D := by
  unfold State.skipRecord
  dsimp only
  rw [← State.recordFinished_requeue]
  congr 1
  cases hc : r.cls with
  | normal => simp [State.requeue, State.onGate, State.notify, Gate.leaveQueue, Gate.setQueue, Gate.queue, Gate.onRecord, hN,
      State.now]
  | urgent => simp [State.requeue, State.onGate, State.notify, Gate.leaveQueue, Gate.setQueue, Gate.queue, Gate.onRecord, hU,
      State.now]

theorem State.beginSegment_requeue (hU : leavesAlike r.sequence U) (hN : leavesAlike r.sequence N) (s : State) :
    (s.requeue U N D).beginSegment r = (s.beginSegment r).requeue U N D := by
  unfold State.beginSegment
  cases hc : r.cls with
  | normal => simp [State.requeue, State.onGate, Gate.leaveQueue, Gate.setQueue, Gate.queue, Gate.onRecord, hN, State.now,
      Gate.component]
  | urgent => simp [State.requeue, State.onGate, Gate.leaveQueue, Gate.setQueue, Gate.queue, Gate.onRecord, hU, State.now,
      Gate.component]

theorem State.forwardDeparted_requeue (p : Port) (s : State) :
    (s.requeue U N D).forwardDeparted p = (s.forwardDeparted p).requeue U N D := by
  unfold State.forwardDeparted
  have hl : (s.requeue U N D).line = s.line := rfl
  rw [hl]
  split <;> rfl

theorem State.sendForward_requeue (p : Port) (f : Frame) (rest : List Frame) (s : State) :
    (s.requeue U N D).sendForward p f rest = (s.sendForward p f rest).requeue U N D := by
  rw [State.sendForward, State.sendForward, ← State.forwardDeparted_requeue]
  rfl

theorem State.sendInjection_requeue (hD : D true = true) (e : Injection) (rest : List Injection) (s : State) :
    (s.requeue U N D).sendInjection e rest = (s.sendInjection e rest).requeue U N D := by
  simp only [State.sendInjection, State.roomMade, State.requeue, State.onGate, State.onLine, State.report, hD]

theorem State.arbitrateF_requeue (hD : D true = true) (s : State) :
    (s.requeue U N D).arbitrateF = s.arbitrateF.requeue U N D := by
  unfold State.arbitrateF
  have hl : (s.requeue U N D).line = s.line := rfl
  dsimp only
  rw [hl]
  split
  · rfl
  · split
    · rfl
    · split
      · rfl
      · split
        · rfl
        · exact State.sendForward_requeue ..
        · exact State.sendInjection_requeue hD ..
        · split
          · exact State.sendForward_requeue ..
          · exact State.sendInjection_requeue hD ..

theorem State.submitBias_requeue (hD : D true = true) (cls : MoveClass) (t : Nat) (s : State) :
    (s.requeue U N D).submitBias cls t = (s.submitBias cls t).requeue U N D := by
  unfold State.submitBias
  have ha : ((s.requeue U N D).fleet.static t).address = (s.fleet.static t).address := rfl
  have hl : (s.requeue U N D).line = s.line := rfl
  rw [ha, hl]
  cases (s.fleet.static t).address with
  | none => rfl
  | some a =>
    dsimp only
    split
    · rfl
    · rw [← State.arbitrateF_requeue hD]
      rfl

theorem State.injectGrant_requeue (hD : D true = true) (cls : MoveClass) (t : Nat) (s : State) :
    (s.requeue U N D).injectGrant cls t = (s.injectGrant cls t).requeue U N D := by
  unfold State.injectGrant
  have hm : (s.requeue U N D).upkeep.modeIn = s.upkeep.modeIn := rfl
  rw [hm, State.submitBias_requeue hD]
  split <;> rfl

theorem State.reportFirstGrant_requeue (r : MoveRecord) (s : State) :
    (s.requeue U N D).reportFirstGrant r = (s.reportFirstGrant r).requeue U N D := by
  unfold State.reportFirstGrant
  have hi : (s.requeue U N D).gate.installed = s.gate.installed := rfl
  rw [hi]
  split
  · split
    · split <;> rfl
    · rfl
  · rfl

theorem State.grant_requeue (hU : leavesAlike r.sequence U) (hN : leavesAlike r.sequence N) (hD : D true = true) (s : State) :
    (s.requeue U N D).grant r = (s.grant r).requeue U N D := by
  obtain ⟨b, hb⟩ : ∃ b, b = s.beginSegment r := ⟨_, rfl⟩
  have hinj : (if sending (b.requeue U N D).gate.modeIn then (b.requeue U N D).injectGrant r.cls r.turbine
      else b.requeue U N D) = (if sending b.gate.modeIn then b.injectGrant r.cls r.turbine else b).requeue U N D := by
    have hm : (b.requeue U N D).gate.modeIn = b.gate.modeIn := rfl
    rw [hm, State.injectGrant_requeue hD]
    split <;> rfl
  unfold State.grant
  dsimp only
  rw [State.beginSegment_requeue hU hN, ← hb, hinj]
  cases r.cls with
  | normal => exact State.reportFirstGrant_requeue ..
  | urgent => rfl

/-- What a scan does with a record does not depend on the records behind it in the queues. -/
theorem State.reach_requeue (hU : leavesAlike q U) (hN : leavesAlike q N) (hD : D true = true) (s : State) :
    (s.requeue U N D).reach q = ((s.reach q).1.requeue U N D, (s.reach q).2) := by
  have hrec : (s.requeue U N D).gate.record q = s.gate.record q := rfl
  cases hr : s.gate.record q with
  | none => rw [State.reach, State.reach, hrec, hr]
  | some r =>
    obtain rfl : r.sequence = q := (Gate.mem_of_record hr).2
    have hj : (s.requeue U N D).judge r = s.judge r := rfl
    rw [State.reach_of_record hr, State.reach_of_record (hrec.trans hr), hj]
    cases s.judge r with
    | skip c => exact congrArg (·, true) (State.skipRecord_requeue hU hN c s)
    | passOver => rfl
    | await => exact congrArg (·, true) (by simp only [State.carryOut, State.requeue, State.onGate, hD])
    | stop => rfl
    | grant => exact congrArg (·, true) (State.grant_requeue hU hN hD s)

/-- A walk of records that are not among those the queues are changed by. -/
theorem State.walk_requeue (qs : List Nat) (hU : ∀ q ∈ qs, leavesAlike q U) (hN : ∀ q ∈ qs, leavesAlike q N)
    (hD : D true = true) (s : State) :
    (s.requeue U N D).walk qs = ((s.walk qs).1.requeue U N D, (s.walk qs).2) := by
  induction qs generalizing s with
  | nil => rfl
  | cons q qs ih =>
    rw [State.walk_cons, State.walk_cons,
      State.reach_requeue (hU q List.mem_cons_self) (hN q List.mem_cons_self) hD]
    dsimp only
    rw [ih (fun x hx => hU x (List.mem_cons_of_mem _ hx)) (fun x hx => hN x (List.mem_cons_of_mem _ hx))]
    split <;> rfl

/-! ### What is left in the queues -/

/-- The part stays powered, and of the ready queues at most the record reached leaves. -/
structure QueuesLeft (q : Nat) (s t : State) : Prop where
  powered : t.powered = s.powered
  urgent : t.gate.urgentQueue = s.gate.urgentQueue ∨ t.gate.urgentQueue = s.gate.urgentQueue.erase q
  normal : t.gate.normalQueue = s.gate.normalQueue ∨ t.gate.normalQueue = s.gate.normalQueue.erase q

theorem queuesLeft_refl (q : Nat) (s : State) : QueuesLeft q s s := ⟨rfl, .inl rfl, .inl rfl⟩

/-- What stands while the telegram of a grant is queued and the first grant reported. -/
@[reducible] def queuesStand (s t : State) : Prop :=
  t.powered = s.powered ∧ t.gate.urgentQueue = s.gate.urgentQueue ∧ t.gate.normalQueue = s.gate.normalQueue

theorem QueuesLeft.trans {t u : State} (h : QueuesLeft q s t) (hu : queuesStand t u) : QueuesLeft q s u := by
  obtain ⟨hpow, hurgent, hnormal⟩ := hu
  exact ⟨hpow.trans h.powered, by rw [hurgent]; exact h.urgent, by rw [hnormal]; exact h.normal⟩

theorem queuesLeft_leaveQueue (q : Nat) (cls : MoveClass) (s : State) :
    QueuesLeft q s (s.onGate fun g => g.leaveQueue q cls) := by
  cases cls with
  | normal => exact ⟨rfl, .inl rfl, .inr rfl⟩
  | urgent => exact ⟨rfl, .inr rfl, .inl rfl⟩

theorem State.skipRecord_queuesLeft (c : FinishCause) (s : State) : QueuesLeft r.sequence s (s.skipRecord r c) := by
  refine (queuesLeft_leaveQueue r.sequence r.cls s).trans ?_
  unfold State.skipRecord
  dsimp only
  rw [State.recordFinished_frame]
  exact ⟨rfl, rfl, rfl⟩

theorem State.injectGrant_queuesStand (cls : MoveClass) (t : Nat) (s : State) : queuesStand s (s.injectGrant cls t) := by
  unfold State.injectGrant
  have hegress := onlyEgress_submitBias cls t s
  unfold onlyEgress at hegress
  split
  · rw [hegress]
    exact ⟨rfl, rfl, rfl⟩
  · exact ⟨rfl, rfl, rfl⟩

theorem State.reportFirstGrant_queuesStand (r : MoveRecord) (s : State) : queuesStand s (s.reportFirstGrant r) := by
  unfold State.reportFirstGrant
  split
  · split
    · split <;> exact ⟨rfl, rfl, rfl⟩
    · exact ⟨rfl, rfl, rfl⟩
  · exact ⟨rfl, rfl, rfl⟩

theorem State.grant_queuesLeft (s : State) : QueuesLeft r.sequence s (s.grant r) := by
  have hbegin : QueuesLeft r.sequence s (s.beginSegment r) :=
    (queuesLeft_leaveQueue r.sequence r.cls s).trans ⟨rfl, rfl, rfl⟩
  obtain ⟨v, hv⟩ : ∃ v, v = if sending (s.beginSegment r).gate.modeIn then (s.beginSegment r).injectGrant r.cls r.turbine
      else s.beginSegment r := ⟨_, rfl⟩
  have hqueues : QueuesLeft r.sequence s v := by
    rw [hv]
    split
    · exact hbegin.trans (State.injectGrant_queuesStand ..)
    · exact hbegin
  unfold State.grant
  dsimp only
  rw [← hv]
  cases r.cls with
  | urgent => exact hqueues
  | normal => exact hqueues.trans (State.reportFirstGrant_queuesStand ..)

theorem State.reach_queuesLeft (q : Nat) (s : State) : QueuesLeft q s (s.reach q).1 := by
  cases hr : s.gate.record q with
  | none =>
    rw [State.reach, hr]
    exact queuesLeft_refl q s
  | some r =>
    obtain rfl : r.sequence = q := (Gate.mem_of_record hr).2
    rw [State.reach_of_record hr]
    cases s.judge r with
    | skip c => exact State.skipRecord_queuesLeft c s
    | passOver => exact queuesLeft_refl _ s
    | await => exact ⟨rfl, .inl rfl, .inl rfl⟩
    | stop => exact queuesLeft_refl _ s
    | grant => exact State.grant_queuesLeft s

/-- A walk puts nothing into the normal queue. -/
theorem State.walk_normalQueue (qs : List Nat) (s : State) : (s.walk qs).1.gate.normalQueue ⊆ s.gate.normalQueue := by
  induction qs generalizing s with
  | nil => exact List.Subset.refl _
  | cons q qs ih =>
    have hreach : (s.reach q).1.gate.normalQueue ⊆ s.gate.normalQueue := by
      rcases (State.reach_queuesLeft q s).normal with h | h <;> rw [h]
      · exact List.Subset.refl _
      · exact List.erase_subset
    rw [State.walk_cons]
    split
    · exact List.Subset.trans (ih _) hreach
    · exact hreach

/-! ### A scan as one record and then the others -/

/-- A record that is not among the first of a queue leaves the others. -/
theorem leavesAlike_append_left {P : List Nat} (h : q ∉ P) : leavesAlike q (P ++ ·) :=
  fun l => List.erase_append_right l h

/-- A record that is not among the last of a queue leaves the first. -/
theorem leavesAlike_append_right {P : List Nat} (h : q ∉ P) : leavesAlike q (· ++ P) := by
  intro l
  by_cases hq : q ∈ l
  · exact List.erase_append_left P hq
  · rw [List.erase_append_right P hq, List.erase_of_not_mem h, List.erase_of_not_mem hq]

/-- The state at a scan, no cause for the next one standing. -/
def State.scanning (s : State) : State := s.onGate fun g => { g with scanDue := false }

/-- A scan is two walks, the second unless the first stopped (R117). -/
def State.walks (us : List Nat) (s : State) : State :=
  if (s.walk us).2 = true then ((s.walk us).1.walk (s.walk us).1.gate.normalQueue).1 else (s.walk us).1

theorem State.scan_eq (s : State) : s.scan = s.scanning.walks s.gate.urgentQueue := by
  have h : ∀ x : State × Bool, (match x with
      | (s, true) => (s.walk s.gate.normalQueue).1
      | (s, false) => s) = if x.2 = true then (x.1.walk x.1.gate.normalQueue).1 else x.1 := by
    rintro ⟨v, b⟩
    cases b <;> rfl
  exact h _

theorem exec_arbiterScan (hp : s.powered = true) (hd : s.gate.scanDue = true) :
    exec .arbiterScan s = .next (s.scanning.walks s.gate.urgentQueue) :=
  (State.event_powered hp).trans (congrArg _ ((if_pos hd).trans s.scan_eq))

/-- A scan of one record. -/
theorem State.walks_single (h : s.gate.urgentQueue = [q] ∧ s.gate.normalQueue = [] ∨
    s.gate.urgentQueue = [] ∧ s.gate.normalQueue = [q]) : s.walks s.gate.urgentQueue = (s.reach q).1 := by
  rcases h with ⟨hu, hn⟩ | ⟨hu, hn⟩
  · have hempty : (s.reach q).1.gate.normalQueue = [] := by
      rcases (State.reach_queuesLeft q s).normal with h | h <;> rw [h, hn]
      rfl
    rw [State.walks, hu, State.walk_singleton, hempty]
    exact ite_self _
  · rw [State.walks, hu, State.walk, if_pos rfl, hn, State.walk_singleton]

theorem State.walks_cons (us : List Nat) (h : (s.reach q).2 = true) : s.walks (q :: us) = (s.reach q).1.walks us := by
  rw [State.walks, State.walks, State.walk_cons, if_pos h]

theorem State.walks_nil (s : State) : s.walks [] = (s.walk s.gate.normalQueue).1 := if_pos rfl

theorem State.walks_requeue (us : List Nat) (hU : ∀ q ∈ us ++ s.gate.normalQueue, leavesAlike q U) (hN : ∀ l, N l = l)
    (hD : D true = true) : (s.requeue U N D).walks us = (s.walks us).requeue U N D := by
  have hN' : ∀ q : Nat, leavesAlike q N := fun q l => by rw [hN, hN]
  have hfirst := State.walk_requeue us (fun q hq => hU q (List.mem_append_left _ hq)) (fun q _ => hN' q) hD s
  have hqueue : ((s.walk us).1.requeue U N D).gate.normalQueue = (s.walk us).1.gate.normalQueue := hN _
  have hsecond := State.walk_requeue (s.walk us).1.gate.normalQueue
    (fun q hq => hU q (List.mem_append_right _ (State.walk_normalQueue us s hq))) (fun q _ => hN' q) hD (s.walk us).1
  rw [State.walks, State.walks, hfirst]
  dsimp only
  rw [hqueue, hsecond]
  split <;> rfl

/-- The state that the scan of one record leaves, with the others waiting and no cause for a scan standing. -/
def State.withRest (us ns : List Nat) (b : State) : State :=
  { b with gate := { b.gate with scanDue := false, urgentQueue := us, normalQueue := ns } }

/-- What a scan has left of its first record, put before what it leaves of the others. -/
def State.before (b t : State) : State :=
  t.requeue (b.gate.urgentQueue ++ ·) (b.gate.normalQueue ++ ·) (b.gate.scanDue || ·)

/-- The state after the first record, the others waiting behind it. -/
theorem State.before_withRest (us ns : List Nat) (b : State) :
    b.before (b.withRest us ns) = b.requeue (· ++ us) (· ++ ns) id := by
  simp only [State.before, State.withRest, State.requeue, Bool.or_false, id]

theorem State.reach_rest {us ns : List Nat} (hu : q ∉ us) (hn : q ∉ ns) (w : State) :
    (w.requeue (· ++ us) (· ++ ns) id).reach q = ((w.reach q).1.before ((w.reach q).1.withRest us ns), (w.reach q).2) := by
  rw [State.before_withRest]
  exact State.reach_requeue (leavesAlike_append_right hu) (leavesAlike_append_right hn) rfl w

/-- A scan that does not stop at the first record of the urgent queue goes on as a scan of the others (R117). -/
theorem State.walks_rest_urgent {us ns : List Nat} {w : State} (hu : q ∉ us) (hn : q ∉ ns)
    (hw : w.gate.urgentQueue = [q] ∧ w.gate.normalQueue = []) (hgo : (w.reach q).2 = true) :
    (w.requeue (· ++ us) (· ++ ns) id).walks (q :: us) =
      (w.reach q).1.before (((w.reach q).1.withRest us ns).walks us) := by
  obtain ⟨-, hleftU, hleftN⟩ := State.reach_queuesLeft q w
  have hempty : (w.reach q).1.gate.normalQueue = [] := by
    rcases hleftN with h | h <;> rw [h, hw.2]
    rfl
  have hfresh : ∀ x ∈ us ++ ns, x ∉ (w.reach q).1.gate.urgentQueue := by
    intro x hx hmem
    obtain rfl : x = q := by
      rcases hleftU with h | h <;> rw [h, hw.1] at hmem
      · exact List.mem_singleton.mp hmem
      · exact List.mem_singleton.mp (List.mem_of_mem_erase hmem)
    rcases List.mem_append.mp hx with h | h
    · exact hu h
    · exact hn h
  rw [State.walks_cons us (by rw [State.reach_rest hu hn]; exact hgo), State.reach_rest hu hn]
  refine State.walks_requeue us (fun x hx => leavesAlike_append_left (hfresh x hx)) (fun l => ?_) (Bool.or_true _)
  rw [hempty, List.nil_append]

/-- A scan that does not stop at the first record of the normal queue goes on as a scan of the others (R117). -/
theorem State.walks_rest_normal {ns : List Nat} {w : State} (hn : q ∉ ns)
    (hw : w.gate.urgentQueue = [] ∧ w.gate.normalQueue = [q]) (hgo : (w.reach q).2 = true) :
    (w.requeue (· ++ []) (· ++ ns) id).walks [] = (w.reach q).1.before (((w.reach q).1.withRest [] ns).walks []) := by
  obtain ⟨-, hleftU, hleftN⟩ := State.reach_queuesLeft q w
  have hqueue : (w.requeue (· ++ []) (· ++ ns) id).gate.normalQueue = q :: ns := congrArg (· ++ ns) hw.2
  have hempty : (w.reach q).1.gate.urgentQueue = [] := by
    rcases hleftU with h | h <;> rw [h, hw.1]
    rfl
  have hfresh : ∀ x ∈ ns, x ∉ (w.reach q).1.gate.normalQueue := by
    intro x hx hmem
    obtain rfl : x = q := by
      rcases hleftN with h | h <;> rw [h, hw.2] at hmem
      · exact List.mem_singleton.mp hmem
      · exact List.mem_singleton.mp (List.mem_of_mem_erase hmem)
    exact hn hx
  rw [State.walks_nil, State.walks_nil, hqueue, State.walk_cons, State.reach_rest (List.not_mem_nil) hn, if_pos hgo]
  refine congrArg Prod.fst (State.walk_requeue ns (fun x _ => leavesAlike_append_left ?_)
    (fun x hx => leavesAlike_append_left (hfresh x hx)) (Bool.or_true _) _)
  rw [hempty]
  exact List.not_mem_nil

/-- A scan that stops at its first record leaves every record in its place (R119). -/
theorem State.walks_stopped (hstop : (s.reach q).2 = false) {us ns : List Nat}
    (h : s.gate.urgentQueue = q :: us ∨ s.gate.urgentQueue = [] ∧ s.gate.normalQueue = q :: ns) :
    s.walks s.gate.urgentQueue = s := by
  have hwalk : ∀ qs, s.walk (q :: qs) = (s, false) := by
    intro qs
    rw [State.walk_cons, if_neg (by rw [hstop]; exact Bool.false_ne_true), State.reach_stopped hstop]
  rcases h with hu | ⟨hu, hn⟩
  · rw [State.walks, hu, hwalk]
    rfl
  · rw [hu, State.walks_nil, hn, hwalk]

/-- A scan of several records: it stops at the first, or goes on as a scan of the others (R117, R119). -/
theorem scan_takesFirst {one t1 t2 : State} {us ns : List Nat} {stops : Prop} (hp : s.powered = true)
    (hd : s.gate.scanDue = true)
    (hone : s.gate.urgentQueue = q :: us ∧ s.gate.normalQueue = ns ∧
        one = { s with gate := { s.gate with urgentQueue := [q], normalQueue := [] } } ∨
      s.gate.urgentQueue = [] ∧ us = [] ∧ s.gate.normalQueue = q :: ns ∧
        one = { s with gate := { s.gate with normalQueue := [q] } })
    (hu : q ∉ us) (hn : q ∉ ns) (hstops : stops ↔ (s.scanning.reach q).2 = false)
    (h1 : exec .arbiterScan one = .next t1)
    (h2 : exec .arbiterScan { t1 with gate := { t1.gate with scanDue := true, urgentQueue := us, normalQueue := ns } } =
      .next t2) :
    (stops → exec .arbiterScan s = .next { s with gate := { s.gate with scanDue := false } }) ∧
    (¬ stops → exec .arbiterScan s = .next { t2 with gate := { t2.gate with
      scanDue := t1.gate.scanDue || t2.gate.scanDue
      urgentQueue := t1.gate.urgentQueue ++ t2.gate.urgentQueue
      normalQueue := t1.gate.normalQueue ++ t2.gate.normalQueue } }) := by
  obtain ⟨w, hw⟩ : ∃ w, w = one.scanning := ⟨_, rfl⟩
  have hscanning : s.scanning = w.requeue (· ++ us) (· ++ ns) id := by
    rcases hone with ⟨hqu, hqn, rfl⟩ | ⟨hqu, rfl, hqn, rfl⟩ <;> rw [hw]
    · simp only [State.scanning, State.requeue, State.onGate, List.singleton_append, List.nil_append, id, ← hqu, ← hqn]
    · simp only [State.scanning, State.requeue, State.onGate, List.singleton_append, List.append_nil, id, ← hqn]
  have hsingle : w.gate.urgentQueue = [q] ∧ w.gate.normalQueue = [] ∨ w.gate.urgentQueue = [] ∧ w.gate.normalQueue = [q] := by
    rcases hone with ⟨hqu, hqn, rfl⟩ | ⟨hqu, rfl, hqn, rfl⟩ <;> rw [hw]
    · exact .inl ⟨rfl, rfl⟩
    · exact .inr ⟨hqu, rfl⟩
  have hpow : one.powered = true ∧ one.gate.scanDue = true := by
    rcases hone with ⟨-, -, rfl⟩ | ⟨-, -, -, rfl⟩ <;> exact ⟨hp, hd⟩
  have ht1 : t1 = (w.reach q).1 := by
    rw [hw] at hsingle ⊢
    exact (Host.Outcome.next.inj (h1.symm.trans (exec_arbiterScan hpow.1 hpow.2))).trans (State.walks_single hsingle)
  have ht2 : t2 = (t1.withRest us ns).walks us := by
    have hpow1 : t1.powered = true := by
      rw [ht1, (State.reach_queuesLeft q w).powered, hw]
      exact hpow.1
    exact Host.Outcome.next.inj (h2.symm.trans (exec_arbiterScan hpow1 rfl))
  have hsame : (s.scanning.reach q).2 = (w.reach q).2 := by
    rw [hscanning, State.reach_rest hu hn]
  refine ⟨fun h => ?_, fun h => ?_⟩
  · refine (exec_arbiterScan hp hd).trans (congrArg _ (State.walks_stopped (us := us) (ns := ns) (hstops.mp h) ?_))
    rcases hone with ⟨hqu, -⟩ | ⟨hqu, -, hqn, -⟩
    · exact .inl hqu
    · exact .inr ⟨hqu, hqn⟩
  · have hgo : (w.reach q).2 = true := by
      rw [← hsame]
      exact eq_true_of_ne_false fun hf => h (hstops.mpr hf)
    refine (exec_arbiterScan hp hd).trans (congrArg Host.Outcome.next (Eq.trans ?_ (b := t1.before t2) rfl))
    rw [ht2, ht1, hscanning]
    rcases hone with ⟨hqu, -, rfl⟩ | ⟨hqu, rfl, -, rfl⟩
    · rw [hqu]
      exact State.walks_rest_urgent hu hn (by rw [hw]; exact ⟨rfl, rfl⟩) hgo
    · rw [hqu]
      exact State.walks_rest_normal hn (by rw [hw]; exact ⟨hqu, rfl⟩) hgo

/-! ### A scan of one record -/

/-- The queues of a record that waits alone, in the queue of its class. -/
@[reducible] def waitsAlone (q : Nat) (r : MoveRecord) (g : Gate) : Prop :=
  g.urgentQueue = [] ∧ g.normalQueue = [q] ∧ r.cls = .normal ∨ g.urgentQueue = [q] ∧ g.normalQueue = [] ∧ r.cls = .urgent

theorem exec_arbiterScan_single (hp : s.powered = true) (hd : s.gate.scanDue = true) (h : waitsAlone q r s.gate) :
    exec .arbiterScan s = .next (s.scanning.reach q).1 := by
  refine (exec_arbiterScan hp hd).trans (congrArg _ (State.walks_single (s := s.scanning) ?_))
  rcases h with ⟨hu, hn, -⟩ | ⟨hu, hn, -⟩
  · exact .inr ⟨hu, hn⟩
  · exact .inl ⟨hu, hn⟩

theorem finishes_skipped (c : FinishCause) (second : Nat) : finishes (MoveRecord.finish .skipped (some c) second) :=
  fun _ => ⟨rfl, rfl, rfl, rfl⟩

/-- The scan's skip of a record that waits alone, before what follows its finish (R118). -/
def State.skipped (q : Nat) (r : MoveRecord) (c : FinishCause) (s : State) : State :=
  { s with
    gate := { s.gate with
      ring := changeRecord q (MoveRecord.finish .skipped (some c) s.now) s.gate.ring
      normalQueue := [], urgentQueue := [], scanDue := false }
    notices := s.notices ++ [.moveSkipped q r.turbine c] }

theorem State.skipRecord_alone (hq : r.sequence = q) (h : waitsAlone q r s.gate) (c : FinishCause) :
    s.scanning.skipRecord r c = (s.skipped q r c).recordFinished r .skipped := by
  subst hq
  unfold State.skipRecord
  dsimp only
  congr 1
  rcases h with ⟨hu, hn, hc⟩ | ⟨hu, hn, hc⟩ <;>
  simp [State.skipped, State.scanning, State.onGate, State.notify, Gate.leaveQueue, Gate.setQueue, Gate.queue, Gate.onRecord,
    changeRecord, State.now, hu, hn, hc]

theorem State.recordFinished_notices (r : MoveRecord) (o : UrgentOutcome) (s : State) :
    ∃ more, (s.recordFinished r o).notices = s.notices ++ more := by
  cases hc : r.cls with
  | urgent =>
    rw [State.recordFinished_urgent hc]
    exact ⟨[], (List.append_nil _).symm⟩
  | normal =>
    by_cases hi : s.gate.installed.map (·.number) = some r.plan
    · have htest : s.recordFinished r o = s.testCompletion := by
        rw [State.recordFinished, hc]
        exact if_pos hi
      rw [htest]
      exact State.testCompletion_notices s
    · rw [State.recordFinished_other hc hi]
      exact ⟨[], (List.append_nil _).symm⟩

/-- The cause of a skip by the turbine's availability and yaw state (R118). -/
theorem skipCause_of_state {d : TurbineDynamic} (h : d.availability = .fault ∧ c = .unavailable ∨
    (d.availability = .unseen ∨ d.availability = .stale) ∧ c = .stale ∨
    d.availability = .online ∧ (d.yaw = some .locked ∧ c = .locked ∨ d.yaw = some .fault ∧ c = .yawFault)) :
    skipCause d = some c := by
  unfold skipCause
  rcases h with ⟨h, rfl⟩ | ⟨h | h, rfl⟩ | ⟨h, ⟨hy, rfl⟩ | ⟨hy, rfl⟩⟩
  · rw [h]
  · rw [h]
  · rw [h]
  · rw [h, hy]
  · rw [h, hy]

/-- What follows the skip of a NORMAL record: the completion of its installed plan, or nothing (R111, R118). -/
theorem skipped_normal {v t : State} {F : MoveRecord → MoveRecord} (hF : finishes F)
    (hring : v.gate.ring = changeRecord q F s.gate.ring) (hinst : v.gate.installed = s.gate.installed)
    (hc : r.cls = .normal) (ht : t = v.recordFinished r .skipped) :
    (∀ p, s.gate.installed = some p → p.number = r.plan → p.waves.length ≤ p.nextWave →
      (∀ x ∈ s.gate.ring, x.cls = .normal → x.plan = p.number → x.sequence ≠ q → x.state.finished = true) →
      t = v.completePlan p) ∧
    ((∀ p, s.gate.installed = some p → p.number = r.plan → p.nextWave < p.waves.length ∨
      ∃ x ∈ s.gate.ring, x.cls = .normal ∧ x.plan = p.number ∧ x.sequence ≠ q ∧ x.state.finished = false) → t = v) := by
  rw [ht]
  refine ⟨fun p hi hp => (State.recordFinished_changed hF hring hc (hinst.trans hi) hp .skipped).2, fun h => ?_⟩
  by_cases hown : v.gate.installed.map (·.number) = some r.plan
  · obtain ⟨p, hi, hp⟩ := Option.map_eq_some_iff.mp hown
    exact (State.recordFinished_changed hF hring hc hi hp .skipped).1 (h p (hinst.symm.trans hi) hp)
  · exact State.recordFinished_other hc hown .skipped

/-- Settles O42: a record that waits alone is what the scan does with one record; a scan of more commutes with the queues
behind its first record. -/
theorem scanSkipsOrPassesOver : Obligations.ScanSkipsOrPassesOver := by
  unfold Obligations.ScanSkipsOrPassesOver
  refine ⟨fun s q r hp hd halone hr hq => ⟨fun c hcause => ?_, fun hon hlocked hfault hheld => ?_⟩,
    fun s one t1 t2 q us ns stops hp hd hone hu hn hstops h1 h2 => ?_⟩
  · have hexec : exec .arbiterScan s = .next ((s.skipped q r c).recordFinished r .skipped) := by
      rw [exec_arbiterScan_single hp hd halone, State.reach_of_record (s := s.scanning) hr,
        State.judge_skip (s := s.scanning) (skipCause_of_state hcause)]
      exact congrArg _ (State.skipRecord_alone hq halone c)
    obtain ⟨t, ht⟩ : ∃ t, t = (s.skipped q r c).recordFinished r .skipped := ⟨_, rfl⟩
    have hframe := State.recordFinished_frame r .skipped (s.skipped q r c)
    obtain ⟨rest, hrest⟩ := State.recordFinished_notices r .skipped (s.skipped q r c)
    rw [← ht] at hexec hframe hrest
    have hnotices : t.notices = s.notices ++ .moveSkipped q r.turbine c :: rest :=
      hrest.trans (List.append_assoc ..)
    have hrest_of : ∀ more, t.notices = (s.skipped q r c).notices ++ more → rest = more := fun more hmore =>
      List.append_cancel_left (hrest.symm.trans hmore)
    refine ⟨t, rest, hexec, ?_, ?_, ?_, ?_, ?_, ?_, hnotices, ?_, fun hc => ⟨fun p hi hpn hw hall => ?_, fun h => ?_⟩, fun hc => ?_⟩
    · rw [hframe]
      rfl
    · rw [hframe]
      rfl
    · rw [hframe]
      rfl
    · rw [hframe]
      rfl
    · rw [hframe]
      rfl
    · rw [hframe]
      rfl
    · rw [hframe]
      rfl
    · have hdone := (skipped_normal (s := s) (v := s.skipped q r c) (finishes_skipped c s.now) rfl rfl hc ht).1 p hi hpn hw hall
      rw [State.completePlan_eq] at hdone
      refine ⟨?_, ?_, ?_, hrest_of _ ?_⟩ <;> rw [hdone]
      · rfl
    · have hkept := (skipped_normal (s := s) (v := s.skipped q r c) (finishes_skipped c s.now) rfl rfl hc ht).2 h
      refine ⟨?_, ?_, ?_, hrest_of _ ?_⟩ <;> rw [hkept]
      · rfl
      · rfl
      · rfl
      · exact (List.append_nil _).symm
    · rw [State.recordFinished_changed_urgent (ring := s.gate.ring) (q := q) (finishes_skipped c s.now) rfl hc] at ht
      refine ⟨?_, ?_, hrest_of _ ?_, ?_⟩ <;> rw [ht]
      · rfl
      · rfl
      · exact (List.append_nil _).symm
      · rfl
  · have hhealthy : skipCause (s.fleet.dynamic r.turbine) = none := (skipCause_none_iff _).mpr ⟨hon, hlocked, hfault⟩
    have hstands : (s.scanning.reach q).1 = s.scanning := by
      rw [State.reach_of_record (s := s.scanning) hr]
      by_cases hfree : s.free r
      · obtain ⟨hbusy, hslot⟩ := State.free_iff.mp hfree
        have hfull : inSending s.gate.modeIn ∧ 32 ≤ s.line.injections.length := by
          rcases hheld with h | ⟨hc, h⟩ | ⟨hc, h⟩ | ⟨hc, h⟩ | h
          · exact absurd hbusy h
          · obtain ⟨-, -, hhold⟩ := hfree
            exact absurd ⟨hc, h⟩ hhold
          · obtain ⟨hcls, -⟩ | ⟨-, -, p, hi, hlt⟩ := hslot
            · rw [hc] at hcls
              cases hcls
            · exact absurd hlt (Nat.not_lt.mpr (h p hi))
          · obtain ⟨-, hlt⟩ | ⟨hcls, -⟩ := hslot
            · exact absurd hlt (Nat.not_lt.mpr h)
            · rw [hc] at hcls
              cases hcls
          · exact h
        rw [(State.judge_stop_iff (s := s.scanning)).mpr ⟨hhealthy, hfree, hfull⟩]
        rfl
      · rw [State.judge_passOver (s := s.scanning) hhealthy hfree]
        rfl
    rw [exec_arbiterScan_single hp hd halone, hstands]
    rfl
  · refine scan_takesFirst hp hd hone hu hn ?_ h1 h2
    exact hstops.trans (State.reach_stops_iff (s := s.scanning)).symm

end Sys2Proof.Machine
end

/-! PROOFS. The grant of section 7.4 (R98, R119, R120, R137): the segment begun as one explicit state, the telegram injected
and the first grant reported as changes of what a grant leaves open, and the statement about the scan that grants. -/

section
namespace Sys2Proof.Machine

variable {s : State} {q : Nat} {r : MoveRecord} {p : Plan} {k : Nat} {w : Wave}

/-! ### The telegram injected -/

/-- The F-egress arbiter reports at most a room event, and nothing behind a busy transmitter (R30). -/
theorem State.arbitrateF_reports (s : State) : ∃ made : List Instr, (made = [] ∨ made = [.roomEvent]) ∧
    s.arbitrateF.reports = s.reports ++ made ∧ (s.line.fPort.transmission.isSome = true → made = []) := by
  have hnone : ∀ t : State, t.reports = s.reports → ∃ made : List Instr, (made = [] ∨ made = [.roomEvent]) ∧
      t.reports = s.reports ++ made ∧ (s.line.fPort.transmission.isSome = true → made = []) :=
    fun t ht => ⟨[], .inl rfl, ht.trans (List.append_nil _).symm, fun _ => rfl⟩
  have hforward : ∀ f fs, (s.sendForward .sPort f fs).reports = s.reports := by
    intro f fs
    unfold State.sendForward State.forwardDeparted
    split <;> rfl
  unfold State.arbitrateF
  dsimp only
  split
  · exact hnone _ rfl
  · next hidle =>
    split
    · exact hnone _ rfl
    · split
      · exact hnone _ rfl
      · split
        · exact hnone _ rfl
        · exact hnone _ (hforward _ _)
        · exact ⟨[.roomEvent], .inr rfl, rfl, fun h => absurd h hidle⟩
        · split
          · exact hnone _ (hforward _ _)
          · exact ⟨[.roomEvent], .inr rfl, rfl, fun h => absurd h hidle⟩

theorem State.submitBias_reports (cls : MoveClass) (i : Nat) (s : State) : ∃ made : List Instr,
    (made = [] ∨ made = [.roomEvent]) ∧ (s.submitBias cls i).reports = s.reports ++ made ∧
      (s.line.fPort.transmission.isSome = true → made = []) := by
  have hnone : ∃ made : List Instr, (made = [] ∨ made = [.roomEvent]) ∧
      s.reports = s.reports ++ made ∧ (s.line.fPort.transmission.isSome = true → made = []) :=
    ⟨[], .inl rfl, (List.append_nil _).symm, fun _ => rfl⟩
  unfold State.submitBias
  split
  · exact hnone
  · split
    · exact hnone
    · exact State.arbitrateF_reports (State.onLine _ s.advanceSequence)

/-- What the injection of a grant leaves of the state. -/
structure Injected (b v : State) (made : List Instr) : Prop where
  frame : v = { b with
    line := v.line, reports := v.reports, upkeep := v.upkeep, gate := { b.gate with scanDue := v.gate.scanDue }
    dispatcher := { b.dispatcher with held := v.dispatcher.held, pendingNotices := v.dispatcher.pendingNotices } }
  bias : v.upkeep.controllerBias = b.upkeep.controllerBias
  few : made = [] ∨ made = [.roomEvent]
  reports : v.reports = b.reports ++ made
  busy : b.line.fPort.transmission.isSome = true → made = []

theorem injected_refl (b : State) : Injected b b [] :=
  ⟨rfl, rfl, .inl rfl, (List.append_nil _).symm, fun _ => rfl⟩

theorem State.injectGrant_injected (cls : MoveClass) (i : Nat) (b : State) :
    ∃ made, Injected b (b.injectGrant cls i) made := by
  unfold State.injectGrant
  split
  · obtain ⟨made, hmade, hreports, hbusy⟩ := State.submitBias_reports cls i b
    have hegress := onlyEgress_submitBias cls i b
    unfold onlyEgress at hegress
    refine ⟨made, ?_, ?_, hmade, hreports, hbusy⟩
    · rw [hegress]
      rfl
    · rw [hegress]
      rfl
  · exact ⟨[], injected_refl b⟩

/-! ### The first grant of a wave -/

theorem setAt_eq_set {α : Type} (l : List α) (i : Nat) (v : α) : setAt l i v = l.set i v := by
  induction l generalizing i with
  | nil => rfl
  | cons x xs ih => cases i with
    | zero => rfl
    | succ n => exact congrArg (x :: ·) (ih n)

/-- The installed plan with one wave marked as granted (R120, step 8). -/
def Plan.granted (k : Nat) (w : Wave) (p : Plan) : Plan :=
  { p with waves := setAt p.waves k { w with firstGranted := true } }

theorem Plan.granted_spec (hw : p.waves[k]? = some w) :
    (p.granted k w).waves.length = p.waves.length ∧
      (p.granted k w).waves[k]? = some { w with firstGranted := true } ∧
      ∀ j, j ≠ k → (p.granted k w).waves[j]? = p.waves[j]? := by
  obtain ⟨hk, -⟩ := List.getElem?_eq_some_iff.mp hw
  simp only [Plan.granted, setAt_eq_set]
  exact ⟨List.length_set, List.getElem?_set_self hk, fun j hj => List.getElem?_set_ne (Ne.symm hj)⟩

theorem State.reportFirstGrant_first (hi : s.gate.installed = some p) (hk : r.wave = some k) (hw : p.waves[k]? = some w)
    (hfirst : w.firstGranted = false) : s.reportFirstGrant r = { s with
      gate := { s.gate with installed := some (p.granted k w) }, reports := s.reports ++ [.watchArming p.number k] } := by
  simp only [State.reportFirstGrant, hk, hi, hw, hfirst, Bool.false_eq_true, if_false]
  rfl

theorem State.reportFirstGrant_later (hi : s.gate.installed = some p) (hk : r.wave = some k) (hw : p.waves[k]? = some w)
    (hlater : w.firstGranted = true) : s.reportFirstGrant r = s := by
  simp only [State.reportFirstGrant, hk, hi, hw, hlater, if_true]

theorem State.reportFirstGrant_frame (r : MoveRecord) (s : State) : s.reportFirstGrant r = { s with
    gate := { s.gate with installed := (s.reportFirstGrant r).gate.installed }
    reports := (s.reportFirstGrant r).reports } := by
  unfold State.reportFirstGrant
  split
  · split
    · split <;> rfl
    · rfl
  · rfl

/-! ### The grant of a record that waits alone -/

/-- The record of a segment begun (R120, step 5). -/
def MoveRecord.begun (n : Nat) (target : Int) (second : Nat) (x : MoveRecord) : MoveRecord :=
  { x with state := .inFlight, segmentTarget := some target, grantTime := some second, segments := n }

/-- The grant of a record that waits alone, before its telegram (R120, steps 1 to 6). -/
def State.begun (q : Nat) (r : MoveRecord) (seg tgt : Int) (s : State) : State :=
  { s with gate := { s.gate with
      urgentQueue := [], normalQueue := [], scanDue := false
      ring := changeRecord q (MoveRecord.begun (r.done + ((r.target - s.gate.component r.turbine).natAbs +
        s.planner.params.maxStep - 1) / s.planner.params.maxStep) tgt s.now) s.gate.ring
      components := s.gate.components.set 0 r.turbine tgt
      flights := s.gate.flights ++ [{
        record := q, turbine := r.turbine, segment := seg, target := tgt
        expires := s.clock + ((seg.natAbs + s.planner.params.yawRate - 1) / s.planner.params.yawRate) +
          (if s.gate.modeIn = .dry then 0 else s.planner.params.settleMargin)
        simulated := decide (s.gate.modeIn = .dry), fate := if r.cls = .urgent then .urgent else .own }] } }

theorem State.beginSegment_alone {seg tgt : Int} (hq : r.sequence = q) (h : waitsAlone q r s.gate)
    (hseg : seg = signedStep s.planner.params.maxStep (r.target - s.gate.component r.turbine))
    (htgt : tgt = s.gate.component r.turbine + seg) : s.scanning.beginSegment r = s.begun q r seg tgt := by
  subst hq
  have hdry : (s.gate.modeIn == Mode.dry) = decide (s.gate.modeIn = .dry) := rfl
  rcases h with ⟨hu, hn, hc⟩ | ⟨hu, hn, hc⟩ <;>
  simp [State.beginSegment, State.begun, State.scanning, State.onGate, Gate.leaveQueue, Gate.setQueue, Gate.queue,
    Gate.onRecord, Gate.component, changeRecord, MoveRecord.begun, nominalDuration, ceilDiv, State.now, hu, hn, hc, hseg,
    htgt, hdry, Nat.add_assoc]

/-- The state in which the telegram of a grant is queued. -/
def State.injected (r : MoveRecord) (b : State) : State :=
  if sending b.gate.modeIn then b.injectGrant r.cls r.turbine else b

theorem State.injected_spec (r : MoveRecord) (b : State) : ∃ made, Injected b (b.injected r) made ∧
    (b.gate.modeIn = .dry → made = [] ∧ b.injected r = b) := by
  unfold State.injected
  by_cases hm : sending b.gate.modeIn = true
  · rw [if_pos hm]
    obtain ⟨made, h⟩ := State.injectGrant_injected r.cls r.turbine b
    refine ⟨made, h, fun hdry => ?_⟩
    rw [hdry] at hm
    cases hm
  · rw [if_neg hm]
    exact ⟨[], injected_refl b, fun _ => ⟨rfl, rfl⟩⟩

theorem State.injected_sending {b : State} (hm : inSending b.gate.modeIn) (hu : inSending b.upkeep.modeIn) :
    b.injected r = (b.submitBias r.cls r.turbine).restartRefresh r.turbine := by
  rw [State.injected, if_pos (sending_iff.mpr hm), State.injectGrant, if_pos (sending_iff.mpr hu)]

/-- What the report of a wave's first grant leaves of the state. -/
theorem State.grant_eq (r : MoveRecord) (s : State) : s.grant r = match r.cls with
    | .normal => ((s.beginSegment r).injected r).reportFirstGrant r
    | .urgent => (s.beginSegment r).injected r := rfl

/-- The grant is what precedes the report of a first grant, but for the installed plan and the reports. -/
theorem State.grant_frame (r : MoveRecord) (s : State) : s.grant r = { (s.beginSegment r).injected r with
    gate := { ((s.beginSegment r).injected r).gate with installed := (s.grant r).gate.installed }
    reports := (s.grant r).reports } := by
  rw [State.grant_eq]
  cases r.cls with
  | normal => exact State.reportFirstGrant_frame ..
  | urgent => rfl

theorem State.reach_grants (hr : s.gate.record q = some r) (hc : skipCause (s.fleet.dynamic r.turbine) = none)
    (hf : s.free r) (hm : s.gate.modeIn = .dry ∨ inSending s.gate.modeIn ∧ s.line.injections.length < 32) :
    (s.reach q).1 = s.grant r := by
  have hoff : s.gate.modeIn ≠ .off := by
    rcases hm with h | ⟨h | h, -⟩ <;> rw [h] <;> decide
  have hroom : ¬ (sending s.gate.modeIn = true ∧ s.line.injectionFull = true) := by
    rintro ⟨hsend, hfull⟩
    rcases hm with h | ⟨-, h⟩
    · rw [h] at hsend
      cases hsend
    · rw [State.injectionFull_false h] at hfull
      cases hfull
  rw [State.reach_of_record hr, State.judge_free hc hf, if_neg hoff, if_neg hroom]
  rfl

theorem State.commandedBias_begun (q : Nat) (r : MoveRecord) (seg tgt : Int) (s : State) :
    (s.begun q r seg tgt).commandedBias r.turbine =
      clamp (-(s.planner.params.biasLimit : Int)) s.planner.params.biasLimit
        (s.upkeep.controllerBias.get 0 r.turbine + tgt) := by
  have h : (s.begun q r seg tgt).gate.component r.turbine = tgt := Table.get_set_same ..
  rw [State.commandedBias, h]
  rfl

/-- The telegram of a grant (R137). -/
def State.grantTelegram (r : MoveRecord) (tgt : Int) (a : Nat) (s : State) : Injection :=
  ⟨r.cls, buildFrame (BitVec.allOnes 48) Config.stationAddress s.line.typeValue
    { dest := a, source := s.line.node, kind := 2, flags := 0#8, sequence := s.line.sequence, tag := none
      body := i16 (clamp (-(s.planner.params.biasLimit : Int)) s.planner.params.biasLimit
        (s.upkeep.controllerBias.get 0 r.turbine + tgt)) ++ [1#8] }⟩

/-- The telegram of a grant joins the injection queue, and the F-port's arbiter then acts (R30, R137). -/
theorem portActs_begun {a : Nat} {seg tgt : Int} (ha : (s.fleet.static r.turbine).address = some a)
    (hoff : s.line.modeIn ≠ .off) (hroom : s.line.injections.length < 32) :
    portActs .fPort { s.begun q r seg tgt with line := { s.line with
      sequence := s.line.sequence + 1#8
      injections := joinInjections (s.grantTelegram r tgt a) s.line.injections } }
      ((s.begun q r seg tgt).submitBias r.cls r.turbine) := by
  have h := portActs_submitBias (s := s.begun q r seg tgt) (i := r.turbine) r.cls ha hoff hroom
  rw [State.commandedBias_begun] at h
  exact h

/-- Settles O41: the scan is the grant of its one record, the grant a segment begun, a telegram submitted and a report. -/
theorem scanGrantsTheRecord : Obligations.ScanGrantsTheRecord := by
  unfold Obligations.ScanGrantsTheRecord
  intro s q r seg tgt hp hd hr hq hon hlocked hfault hbusy hseg htgt hslot hmode
  have halone : waitsAlone q r s.gate := by
    rcases hslot with ⟨hu, hn, hc, -⟩ | ⟨hu, hn, hc, -⟩
    · exact .inr ⟨hu, hn, hc⟩
    · exact .inl ⟨hu, hn, hc⟩
  have hfree : s.free r := by
    refine State.free_iff.mpr ⟨hbusy, ?_⟩
    rcases hslot with ⟨-, -, hc, hlt⟩ | ⟨-, -, hc, hhold, hlt⟩
    · exact .inl ⟨hc, hlt⟩
    · exact .inr ⟨hc, hhold, hlt⟩
  obtain ⟨b, hb⟩ : ∃ b, b = s.begun q r seg tgt := ⟨_, rfl⟩
  obtain ⟨v, hv⟩ : ∃ v, v = b.injected r := ⟨_, rfl⟩
  obtain ⟨t, ht⟩ : ∃ t, t = s.scanning.grant r := ⟨_, rfl⟩
  have hbegin : s.scanning.beginSegment r = b := (State.beginSegment_alone hq halone hseg htgt).trans hb.symm
  have hexec : exec .arbiterScan s = .next t := by
    rw [exec_arbiterScan_single hp hd halone, ht]
    exact congrArg _ (State.reach_grants (s := s.scanning) hr ((skipCause_none_iff _).mpr ⟨hon, hlocked, hfault⟩) hfree hmode)
  have hgrant : t = match r.cls with
      | .normal => v.reportFirstGrant r
      | .urgent => v := by
    rw [ht, State.grant_eq, hbegin, ← hv]
  have hframe : t = { v with gate := { v.gate with installed := t.gate.installed }, reports := t.reports } := by
    have h := State.grant_frame r s.scanning
    rw [hbegin, ← hv, ← ht] at h
    exact h
  obtain ⟨made, hinj, hdry⟩ := State.injected_spec r b
  rw [← hv] at hinj hdry
  have hvframe := hinj.frame
  have hvi : v.gate.installed = s.gate.installed := by rw [hvframe, hb]; rfl
  have hvr : v.reports = s.reports ++ made := by rw [hinj.reports, hb]; rfl
  obtain ⟨hmodeb, hupb, hlineb⟩ : b.gate.modeIn = s.gate.modeIn ∧ b.upkeep = s.upkeep ∧ b.line = s.line := by
    rw [hb]
    exact ⟨rfl, rfl, rfl⟩
  obtain ⟨hline, hup⟩ : t.line = v.line ∧ t.upkeep = v.upkeep := by
    rw [hframe]
    exact ⟨rfl, rfl⟩
  have hwhole : t = { b with
      line := t.line, reports := t.reports, upkeep := t.upkeep
      gate := { b.gate with installed := t.gate.installed, scanDue := t.gate.scanDue }
      dispatcher := t.dispatcher } := by
    rw [hframe, hvframe]
  have hsent : inSending s.gate.modeIn → inSending s.upkeep.modeIn →
      v = (b.submitBias r.cls r.turbine).restartRefresh r.turbine := fun hgm hum =>
    hv.trans (State.injected_sending (by rw [hmodeb]; exact hgm) (by rw [hupb]; exact hum))
  have hqueued : inSending s.gate.modeIn → ∀ a, (s.fleet.static r.turbine).address = some a → s.line.modeIn ≠ .off →
      portActs .fPort { b with line := { s.line with
        sequence := s.line.sequence + 1#8
        injections := joinInjections (s.grantTelegram r tgt a) s.line.injections } } (b.submitBias r.cls r.turbine) := by
    intro hgm a ha hoff
    rw [hb]
    refine portActs_begun ha hoff (hmode.elim (fun h => ?_) And.right)
    rw [h] at hgm
    rcases hgm with h | h <;> cases h
  refine ⟨t, hexec, ?_, ?_, ?_, fun i hi => ?_, ?_, ?_, ?_, ?_, ?_, ⟨made, hinj.few, ?_, ?_, ?_, ?_⟩, ?_, ?_⟩
  · rw [hwhole, hb]
    rfl
  · rw [hwhole, hb]
    rfl
  · rw [hwhole, hb]
    exact Table.get_set_same ..
  · rw [hwhole, hb]
    exact Table.get_set_other _ _ hi _
  · rw [hwhole, hb]
    rfl
  · rw [hwhole, hb]
    rfl
  · rw [hwhole, hb]
    rfl
  · rw [hwhole, hb]
    rfl
  · rw [hup, hinj.bias, hb]
    rfl
  · rintro (h | h)
    · exact (hdry (hmodeb.trans h)).1
    · exact hinj.busy (by rw [hlineb]; exact h)
  · intro p k w hc hi hk hw hfirst
    rw [hc] at hgrant
    have hrep := hgrant.trans (State.reportFirstGrant_first (hvi.trans hi) hk hw hfirst)
    obtain ⟨hlen, hself, hother⟩ := Plan.granted_spec hw
    refine ⟨by rw [hrep, hvr], p.granted k w, by rw [hrep], rfl, hlen, hself, hother⟩
  · rintro (hc | ⟨p, k, w, hi, hk, hw, hlater⟩)
    · rw [hc] at hgrant
      rw [hgrant]
      exact ⟨hvr, hvi⟩
    · have hsame : t = v := by
        rw [hgrant]
        cases r.cls with
        | normal => exact State.reportFirstGrant_later (hvi.trans hi) hk hw hlater
        | urgent => rfl
      rw [hsame]
      exact ⟨hvr, hvi⟩
  · intro a e hgm hum ha hoff he
    have hacts := hqueued hgm a ha hoff
    have hsubmit := hsent hgm hum
    obtain ⟨x, hx⟩ : ∃ x, x = b.submitBias r.cls r.turbine := ⟨_, rfl⟩
    rw [← hx] at hacts hsubmit
    refine ⟨_, x, rfl, ?_, ?_, ?_⟩
    · rw [he]
      have hw : { s with gate := { t.gate with installed := s.gate.installed, scanDue := false } } = b := by
        rw [hwhole, hb]
        rfl
      rw [← hw] at hacts
      exact hacts
    · rw [← hvr, hsubmit]
      rfl
    · rw [hframe, hsubmit]
      rfl
  · intro h
    rw [hline, hup, (hdry (hmodeb.trans h)).2, hupb, hlineb]
    exact ⟨rfl, rfl⟩
  · intro hgm hum
    have hsubmit := hsent hgm hum
    refine ⟨?_, fun a ha hoff hbusy => ⟨⟨r.cls, _⟩, rfl, ?_, rfl⟩⟩
    · rw [hup, hsubmit, (State.submitBias_restartRefresh (i := r.turbine) r.cls b).1, State.restartRefresh_same, hb]
      rfl
    · have hacts := (hqueued hgm a ha hoff).1 (Option.isSome_iff_ne_none.mp hbusy)
      rw [hline, hsubmit]
      exact congrArg State.line hacts

end Sys2Proof.Machine
end

/-! PROOFS. The records of an install (section 6.4, R93-R95): created wave by wave they are created in one list, numbered one
after the other; a member's record; and the Gate an install leaves, wave 0 released. -/

section
namespace Sys2Proof.Machine

variable {s : State} {g : Gate} {b : Build} {p : Plan} {q n : Nat} {r x : MoveRecord}

/-! ### Records created in order -/

theorem Gate.createRecords_append (rs xs : List MoveRecord) (g : Gate) : g.createRecords (rs ++ xs) =
    (((g.createRecords rs).1.createRecords xs).1, (g.createRecords rs).2 ++ ((g.createRecords rs).1.createRecords xs).2) := by
  induction rs generalizing g with
  | nil => rfl
  | cons r rs ih =>
    rw [List.cons_append, Gate.createRecords, Gate.createRecords]
    dsimp only
    rw [ih]
    rfl

/-- The creation of records touches the ring and the counter, and gives each record a number (R113). -/
theorem Gate.createRecords_frame (rs : List MoveRecord) (g : Gate) :
    (g.createRecords rs).1 = { g with
      ring := (g.createRecords rs).1.ring, recordCounter := (g.createRecords rs).1.recordCounter } ∧
    (g.createRecords rs).2.length = rs.length := by
  induction rs generalizing g with
  | nil => exact ⟨rfl, rfl⟩
  | cons r rs ih =>
    obtain ⟨hframe, hlen⟩ := ih (g.create r)
    rw [Gate.createRecords]
    dsimp only
    refine ⟨?_, congrArg (· + 1) hlen⟩
    rw [hframe]
    rfl

/-- Records created before the numbers wrap take the next ones, and the ring keeps its last 1024 (R113, R114). -/
theorem Gate.createRecords_eq (rs : List MoveRecord) {g : Gate} (hn : g.recordCounter + rs.length ≤ 4294967295)
    (hl : g.ring.length ≤ 1024) : g.createRecords rs = ({ g with
      recordCounter := g.recordCounter + rs.length
      ring := (g.ring ++ numberedFrom g.recordCounter rs).drop (g.ring.length + rs.length - 1024) },
      (numberedFrom g.recordCounter rs).map (·.sequence)) := by
  induction rs generalizing g with
  | nil =>
    rw [Nat.sub_eq_zero_of_le (by simpa using hl), List.drop_zero]
    simp [Gate.createRecords, numberedFrom]
  | cons r rs ih =>
    rw [List.length_cons] at hn
    have hcreate := Gate.create_eq (by omega) hl r
    obtain ⟨k, hk⟩ : ∃ k, k = g.create r := ⟨_, rfl⟩
    rw [← hk] at hcreate
    have hring : k.ring = (g.ring ++ [{ r with sequence := g.recordCounter + 1 }]).drop (g.ring.length + 1 - 1024) := by
      rw [hcreate]
    have hcounter : k.recordCounter = g.recordCounter + 1 := by rw [hcreate]
    have hlen : k.ring.length ≤ 1024 := by
      rw [hring, List.length_drop, List.length_append, List.length_singleton]
      omega
    have hall := drop_ring_append hl { r with sequence := g.recordCounter + 1 } (numberedFrom (g.recordCounter + 1) rs)
    have hcount : (numberedFrom (g.recordCounter + 1) rs).length = rs.length := by simp [numberedFrom]
    rw [List.length_cons, hcount] at hall
    rw [Gate.createRecords, ← hk, ih (by rw [hcounter]; omega) hlen, hring, hcounter, hall, numberedFrom_cons, List.map_cons, List.length_cons,
      Nat.add_right_comm, Nat.add_assoc, hcreate]

/-- The records of every wave are created as one list (R95). -/
theorem Gate.createWaves_eq (ws : List (Slot × List MoveRecord)) (g : Gate) :
    (g.createWaves ws).1 = (g.createRecords (ws.flatMap (·.2))).1 ∧
      ((g.createWaves ws).2.map (·.sequences)).flatten = (g.createRecords (ws.flatMap (·.2))).2 ∧
      (g.createWaves ws).2.map (fun w => (w.row, w.offset, w.delay)) = ws.map (fun x => (x.1.row, x.1.offset, x.1.delay)) ∧
      (g.createWaves ws).2.map (fun w => w.sequences.length) = ws.map (·.2.length) := by
  induction ws generalizing g with
  | nil => exact ⟨rfl, rfl, rfl, rfl⟩
  | cons w ws ih =>
    obtain ⟨hgate, hseqs, hslots, hlens⟩ := ih (g.createRecords w.2).1
    rw [List.flatMap_cons, Gate.createRecords_append]
    exact ⟨hgate, congrArg _ hseqs, congrArg _ hslots, congr (congrArg _ (Gate.createRecords_frame w.2 g).2) hlens⟩

/-- The numbers of the first wave's records (R93, step 5). -/
def firstSequences (ws : List Wave) : List Nat := (ws.head?.map (·.sequences)).getD []

theorem firstSequences_createWaves (w : Slot × List MoveRecord) (ws : List (Slot × List MoveRecord)) (g : Gate) :
    firstSequences (g.createWaves (w :: ws)).2 = (g.createRecords w.2).2 := rfl

theorem numberedFrom_append (n : Nat) (rs xs : List MoveRecord) :
    numberedFrom n (rs ++ xs) = numberedFrom n rs ++ numberedFrom (n + rs.length) xs := by
  induction rs generalizing n with
  | nil => rfl
  | cons r rs ih =>
    rw [List.cons_append, numberedFrom_cons, numberedFrom_cons, ih, List.length_cons, List.cons_append, Nat.add_right_comm,
      Nat.add_assoc]

theorem mem_numberedFrom {rs : List MoveRecord} (h : x ∈ numberedFrom n rs) :
    ∃ r ∈ rs, x = { r with sequence := x.sequence } ∧ n < x.sequence ∧ x.sequence ≤ n + rs.length := by
  obtain ⟨⟨r, i⟩, hi, rfl⟩ := List.mem_map.mp h
  obtain ⟨-, hlt, -⟩ := List.mem_zipIdx hi
  exact ⟨r, List.fst_mem_of_mem_zipIdx hi, rfl, by dsimp only; omega, by dsimp only; omega⟩

/-- What does not look at the numbers sees the records as they are created. -/
theorem numberedFrom_map {α : Type} (f : MoveRecord → α) (hf : ∀ r q, f { r with sequence := q } = f r) (n : Nat)
    (rs : List MoveRecord) : (numberedFrom n rs).map f = rs.map f := by
  induction rs generalizing n with
  | nil => rfl
  | cons r rs ih => rw [numberedFrom_cons, List.map_cons, List.map_cons, ih, hf]

theorem numbered_eq {α : Type} (i : Nat) (l : List α) : numbered i l = (l.zipIdx i).map Prod.swap := by
  induction l generalizing i with
  | nil => rfl
  | cons x xs ih => rw [numbered, ih]; rfl

/-! ### A member's record -/

/-- The record of a member that moves (R95): PENDING, or SKIPPED at once for a FAULT turbine. -/
def State.createdRecord (s : State) (b : Build) (plan wave t : Nat) : MoveRecord :=
  let r := newRecord plan wave t (s.gate.component t) (planTarget s.tables.activeBank b.pair b.inputs.biasLimit t)
    s.planner.params.maxStep
  if (s.fleet.dynamic t).availability = .fault then r.finish .skipped (some .unavailable) s.now else r

/-- The members that an install moves: FAULT ones, and those outside the deadband (R95). -/
@[reducible] def moves (s : State) (b : Build) (moved : Nat → Bool) : Prop :=
  ∀ i, moved i = ((s.fleet.dynamic i).availability == .fault ||
    decide (s.planner.params.deadband < (clamp (-(b.inputs.biasLimit : Int)) b.inputs.biasLimit
      (s.tables.activeBank.offset b.pair.sector b.pair.band i) - s.gate.component i).natAbs))

theorem State.memberRecord_eq {moved : Nat → Bool} (hm : moves s b moved) (plan wave t : Nat) :
    s.memberRecord plan wave t (planTarget s.tables.activeBank b.pair b.inputs.biasLimit t) =
      if moved t = true then some (s.createdRecord b plan wave t) else none := by
  rw [hm t]
  unfold State.memberRecord State.createdRecord
  dsimp only
  by_cases hf : (s.fleet.dynamic t).availability = .fault
  · simp [hf]
  · by_cases hd : (planTarget s.tables.activeBank b.pair b.inputs.biasLimit t - s.gate.component t).natAbs ≤
        s.planner.params.deadband
    · have hd' := hd
      unfold planTarget at hd'
      simp [hf, hd, Nat.not_lt.mpr hd']
    · have hd' := hd
      unfold planTarget at hd'
      simp [hf, hd, Nat.not_le.mp hd']

theorem State.waveRecords_eq {moved : Nat → Bool} (hm : moves s b moved) (plan wave : Nat) (w : Slot) :
    s.waveRecords b plan wave w = ((s.fleet.row w.row).members.filter moved).map (s.createdRecord b plan wave) := by
  unfold State.waveRecords
  induction (s.fleet.row w.row).members with
  | nil => rfl
  | cons t ts ih =>
    rw [List.filterMap_cons, State.memberRecord_eq hm, ih]
    by_cases ht : moved t = true
    · simp [ht]
    · simp [ht]

/-- A created record's plan, class, wave, turbine, figures and state (R95). -/
theorem State.createdRecord_spec (s : State) (b : Build) (plan wave t : Nat) (hr : r = s.createdRecord b plan wave t) :
    r.plan = plan ∧ r.cls = .normal ∧ r.wave = some wave ∧ r.turbine = t ∧ r.done = 0 ∧ r.segmentTarget = none ∧
      r.grantTime = none ∧ r.source = s.gate.component t ∧
      r.target = clamp (-(b.inputs.biasLimit : Int)) b.inputs.biasLimit (s.tables.activeBank.offset b.pair.sector b.pair.band t) ∧
      r.segments = segmentCount s.planner.params.maxStep (r.target - r.source) ∧
      ((s.fleet.dynamic t).availability = .fault →
        r.state = .skipped ∧ r.cause = some .unavailable ∧ r.finishTime = some s.now) ∧
      ((s.fleet.dynamic t).availability ≠ .fault → r.state = .pending ∧ r.cause = none ∧ r.finishTime = none) := by
  subst hr
  unfold State.createdRecord
  dsimp only
  split
  · next h => exact ⟨rfl, rfl, rfl, rfl, rfl, rfl, rfl, rfl, rfl, rfl, fun _ => ⟨rfl, rfl, rfl⟩, fun hno => absurd h hno⟩
  · next h => exact ⟨rfl, rfl, rfl, rfl, rfl, rfl, rfl, rfl, rfl, rfl, fun hf => absurd hf h, fun _ => ⟨rfl, rfl, rfl⟩⟩

/-! ### The records of an install -/

/-- The slots of the schedule that an install follows (R91). -/
def State.slots (s : State) (b : Build) : List Slot := schedule b.inputs (s.planRecord b.pair)

/-- The records an install creates, in creation order and not yet numbered (R95). -/
def State.newRecords (s : State) (b : Build) (plan : Nat) : List MoveRecord := (s.planRecords b plan).flatMap (·.2)

theorem State.planRecords_eq {moved : Nat → Bool} (hm : moves s b moved) (plan : Nat) :
    s.planRecords b plan = (s.slots b).zipIdx.map fun x =>
      (x.1, ((s.fleet.row x.1.row).members.filter moved).map (s.createdRecord b plan x.2)) := by
  rw [State.planRecords, numbered_eq, List.map_map]
  refine List.map_congr_left fun x _ => ?_
  exact congrArg (Prod.mk x.1) (State.waveRecords_eq hm plan x.2 x.1)

theorem zipIdx_map_fst {α β : Type} (f : α → β) (l : List α) : l.zipIdx.map (fun x => f x.1) = l.map f := by
  exact List.map_map.symm.trans (congrArg (List.map f) (List.zipIdx_map_fst 0 l))

theorem State.planRecords_slots {moved : Nat → Bool} (hm : moves s b moved) (plan : Nat) :
    (s.planRecords b plan).map (fun x => (x.1.row, x.1.offset, x.1.delay)) =
        (s.slots b).map (fun w => (w.row, w.offset, w.delay)) ∧
      (s.planRecords b plan).map (·.2.length) = (s.slots b).map (fun w => (s.fleet.row w.row).members.countP moved) := by
  rw [State.planRecords_eq hm, List.map_map, List.map_map]
  refine ⟨zipIdx_map_fst (fun w : Slot => (w.row, w.offset, w.delay)) _, ?_⟩
  rw [← zipIdx_map_fst (fun w : Slot => (s.fleet.row w.row).members.countP moved)]
  refine List.map_congr_left fun x _ => ?_
  rw [Function.comp_apply, List.length_map, List.countP_eq_length_filter]

theorem State.newRecords_eq {moved : Nat → Bool} (hm : moves s b moved) (plan : Nat) :
    s.newRecords b plan = ((s.slots b).zipIdx.map fun x =>
      ((s.fleet.row x.1.row).members.filter moved).map (s.createdRecord b plan x.2)).flatten := by
  rw [State.newRecords, State.planRecords_eq hm, List.flatMap_def, List.map_map]
  rfl

theorem State.newRecords_length {moved : Nat → Bool} (hm : moves s b moved) (plan : Nat) :
    (s.newRecords b plan).length = ((s.slots b).map (fun w => (s.fleet.row w.row).members.countP moved)).sum := by
  rw [State.newRecords, List.length_flatMap, (State.planRecords_slots hm plan).2]

theorem State.mem_newRecords {moved : Nat → Bool} (hm : moves s b moved) {plan : Nat} :
    r ∈ s.newRecords b plan ↔ ∃ k w t, (s.slots b)[k]? = some w ∧ t ∈ (s.fleet.row w.row).members ∧ moved t = true ∧
      s.createdRecord b plan k t = r := by
  rw [State.newRecords_eq hm, List.mem_flatten]
  constructor
  · rintro ⟨l, hl, hr⟩
    obtain ⟨⟨w, k⟩, hw, rfl⟩ := List.mem_map.mp hl
    obtain ⟨t, ht, rfl⟩ := List.mem_map.mp hr
    obtain ⟨hmem, hmoved⟩ := List.mem_filter.mp ht
    exact ⟨k, w, t, List.mem_zipIdx_iff_getElem?.mp hw, hmem, hmoved, rfl⟩
  · rintro ⟨k, w, t, hw, hmem, hmoved, rfl⟩
    exact ⟨_, List.mem_map.mpr ⟨(w, k), List.mem_zipIdx_iff_getElem?.mpr hw, rfl⟩,
      List.mem_map_of_mem (List.mem_filter.mpr ⟨hmem, hmoved⟩)⟩

/-- The first wave's records are those created for the first slot (R95). -/
theorem State.newRecords_split {moved : Nat → Bool} (hm : moves s b moved) (plan : Nat) (g : Gate) :
    ∃ first later, s.newRecords b plan = first ++ later ∧
      firstSequences (g.createWaves (s.planRecords b plan)).2 = (g.createRecords first).2 ∧
      (∀ r ∈ first, r.wave = some 0) ∧ ∀ r ∈ later, r.wave ≠ some 0 := by
  rw [State.newRecords, State.planRecords_eq hm]
  cases s.slots b with
  | nil => exact ⟨[], [], rfl, rfl, by simp, by simp⟩
  | cons w ws =>
    rw [List.zipIdx_cons, List.map_cons, List.flatMap_cons]
    refine ⟨_, _, rfl, firstSequences_createWaves .., fun r hr => ?_, fun r hr => ?_⟩
    · obtain ⟨t, -, rfl⟩ := List.mem_map.mp hr
      exact (State.createdRecord_spec s b plan 0 t rfl).2.2.1
    · obtain ⟨x, hx, hr⟩ := List.mem_flatMap.mp hr
      obtain ⟨⟨v, k⟩, hk, rfl⟩ := List.mem_map.mp hx
      obtain ⟨t, -, rfl⟩ := List.mem_map.mp hr
      obtain ⟨-, -, hwave, -⟩ := State.createdRecord_spec s b plan k t rfl
      obtain ⟨hle, -, -⟩ := List.mem_zipIdx hk
      rw [hwave]
      intro h
      have hzero : k = 0 := Option.some_inj.mp h
      omega

/-! ### The Gate after an install -/

theorem Gate.releaseRecords_frame (qs : List Nat) (g : Gate) : g.releaseRecords qs = { g with
    ring := (g.releaseRecords qs).ring, normalQueue := (g.releaseRecords qs).normalQueue
    scanDue := (g.releaseRecords qs).scanDue } := by
  induction qs generalizing g with
  | nil => rfl
  | cons q qs ih =>
    rw [Gate.releaseRecords, ih]
    split
    · split <;> rfl
    · rfl

/-- The last plan once an installed one is superseded (R94). -/
def Gate.lastOnInstall (g : Gate) : Option Plan :=
  match g.installed with
  | some o => some { o with state := .superseded }
  | none => g.last

/-- The Gate with its installed plan superseded and the number of the new one taken (R93, R94). -/
def Gate.makeWay (number second : Nat) (g : Gate) : Gate :=
  match g.installed with
  | some p => Gate.supersede p second { g with planCounter := number }
  | none => { g with planCounter := number }

theorem Gate.makeWay_some (number second : Nat) (hi : g.installed = some p) :
    g.makeWay number second = Gate.supersede p second { g with planCounter := number } := by
  rw [Gate.makeWay, hi]

theorem Gate.makeWay_none (number second : Nat) (hi : g.installed = none) :
    g.makeWay number second = { g with planCounter := number } := by
  rw [Gate.makeWay, hi]

theorem Gate.makeWay_frame (number second : Nat) (g : Gate) : g.makeWay number second = { g with
    planCounter := number, installed := none
    last := g.lastOnInstall
    flights := g.flights.map (fun f => if g.installed ≠ none ∧ f.fate = .own then { f with fate := .superseded } else f)
    ring := (g.makeWay number second).ring, normalQueue := (g.makeWay number second).normalQueue
    urgentQueue := (g.makeWay number second).urgentQueue } := by
  cases hi : g.installed with
  | none =>
    rw [Gate.makeWay_none number second hi]
    simp only [ne_eq, not_true, false_and, if_false, List.map_id', Gate.lastOnInstall, hi]
  | some p =>
    rw [Gate.makeWay_some number second hi]
    simp only [ne_eq, reduceCtorEq, not_false_iff, true_and, Gate.lastOnInstall, hi]
    rfl

/-- The superseded plan's waiting records finish and leave the queue, the numbers in the ring being distinct (R94). -/
theorem Gate.makeWay_records (number second : Nat) (hd : (g.ring.map (·.sequence)).Nodup) :
    (g.makeWay number second).ring = g.ring.map (fun r => if r.sequence ∈ g.installedWaiting then { r with
        state := .superseded, cause := none, finishTime := some second, segmentTarget := none, grantTime := none } else r) ∧
      (g.makeWay number second).normalQueue = g.normalQueue.filter (fun q => decide (q ∉ g.installedWaiting)) := by
  cases hi : g.installed with
  | none => simp [Gate.makeWay_none number second hi, Gate.installedWaiting_none hi, filter_all_kept]
  | some p =>
    have hfinish := Gate.finishWaiting_eq p.number .superseded none second { g with planCounter := number }
    rw [Gate.installedWaiting_some hi, Gate.makeWay_some number second hi, Gate.supersede, hfinish]
    refine ⟨List.map_congr_left fun r hr => ?_, rfl⟩
    exact ite_congr (propext (mem_waitingNumbers_iff hd hr).symm) (fun _ => rfl) (fun _ => rfl)

end Sys2Proof.Machine
end

/-! PROOFS. The Gate an install leaves (R93-R95): what holds of it in every state, and, with room for the record numbers, its
ring, its normal ready queue and the numbers of its waves. -/

section
namespace Sys2Proof.Machine

variable {s : State} {g : Gate} {b : Build} {p : Plan} {q n : Nat} {r x : MoveRecord}

/-- The Gate that takes the records of an install (R93, steps 1 and 2). -/
def State.cleared (s : State) : Gate := s.gate.makeWay (nextPlanNumber s.gate.planCounter) s.now

/-- The Gate and the waves once an install has created its records (R95). -/
def State.created (b : Build) (s : State) : Gate × List Wave :=
  s.cleared.createWaves (s.planRecords b (nextPlanNumber s.gate.planCounter))

/-- The plan record as an install leaves it (R93, step 4). -/
def State.planInstalled (b : Build) (s : State) : Plan :=
  { newPlan b (nextPlanNumber s.gate.planCounter) (s.created b).2 with
    state := if s.gate.hold then .held else if (s.created b).2.length ≤ 1 then .draining else .running }

theorem State.cleared_hold (s : State) : s.cleared.hold = s.gate.hold := by
  rw [State.cleared, Gate.makeWay_frame]
  rfl

/-- Records, queues and the cause for a scan changed, all else of the Gate as it is. -/
def onlyRecords (g k : Gate) : Prop :=
  k = { g with
    ring := k.ring, recordCounter := k.recordCounter, normalQueue := k.normalQueue, urgentQueue := k.urgentQueue
    scanDue := k.scanDue }

theorem onlyRecords.trans {k l : Gate} (h1 : onlyRecords g k) (h2 : onlyRecords k l) : onlyRecords g l := by
  unfold onlyRecords at *
  rw [h2, h1]

theorem onlyRecords.hold {k : Gate} (h : onlyRecords g k) : k.hold = g.hold := by
  unfold onlyRecords at h
  rw [h]
  rfl

theorem onlyRecords_createWaves (ws : List (Slot × List MoveRecord)) (g : Gate) : onlyRecords g (g.createWaves ws).1 := by
  obtain ⟨hgate, -⟩ := Gate.createWaves_eq ws g
  obtain ⟨hframe, -⟩ := Gate.createRecords_frame (ws.flatMap (·.2)) g
  unfold onlyRecords
  rw [hgate, hframe]

theorem onlyRecords_releaseRecords (qs : List Nat) (g : Gate) : onlyRecords g (g.releaseRecords qs) := by
  unfold onlyRecords
  rw [Gate.releaseRecords_frame]

theorem onlyRecords_cleared (s : State) : onlyRecords { s.gate with
    planCounter := nextPlanNumber s.gate.planCounter, installed := none
    last := s.gate.lastOnInstall
    flights := s.gate.flights.map (fun f =>
      if s.gate.installed ≠ none ∧ f.fate = .own then { f with fate := .superseded } else f) } s.cleared := by
  unfold onlyRecords State.cleared
  rw [Gate.makeWay_frame]

/-- The Gate after an install (R93). -/
theorem State.installPlan_gate (b : Build) (s : State) : (s.installPlan b).gate =
    { (s.created b).1.releaseRecords (firstSequences (s.created b).2) with
      installed := some (s.planInstalled b), steered := some b.pair } := by
  have hfirst : ∀ ws : List Wave, (match ws with
      | [] => []
      | w :: _ => w.sequences) = firstSequences ws := fun ws => by cases ws <;> rfl
  have hhold : ((s.created b).1.releaseRecords (firstSequences (s.created b).2)).hold = s.gate.hold := by
    rw [(onlyRecords_releaseRecords _ _).hold, State.created, (onlyRecords_createWaves _ _).hold]
    exact State.cleared_hold s
  have hshown : (newPlan b (nextPlanNumber s.gate.planCounter) (s.created b).2).shown s.gate.hold =
      if s.gate.hold then .held else if (s.created b).2.length ≤ 1 then .draining else .running := by
    unfold Plan.shown
    dsimp only [newPlan]
    refine ite_congr rfl (fun _ => rfl) fun _ => ?_
    by_cases hl : (s.created b).2.length ≤ 1
    · exact (if_neg (Nat.not_lt.mpr hl)).trans (if_pos hl).symm
    · exact (if_pos (Nat.not_le.mp hl)).trans (if_neg hl).symm
  have hplan : s.planInstalled b = { newPlan b (nextPlanNumber s.gate.planCounter) (s.created b).2 with
      state := (newPlan b (nextPlanNumber s.gate.planCounter) (s.created b).2).shown
        ((s.created b).1.releaseRecords (firstSequences (s.created b).2)).hold } := by
    rw [hhold, hshown]
    rfl
  rw [hplan, ← hfirst]
  rfl

/-- What an install leaves of the Gate, whatever the record numbers (R93, R94). -/
theorem State.installPlan_frame (b : Build) (s : State) : s.installPlan b = { s with gate := { s.gate with
    planCounter := nextPlanNumber s.gate.planCounter, installed := some (s.planInstalled b), steered := some b.pair
    last := s.gate.lastOnInstall
    flights := s.gate.flights.map (fun f =>
      if s.gate.installed ≠ none ∧ f.fate = .own then { f with fate := .superseded } else f)
    ring := (s.installPlan b).gate.ring, recordCounter := (s.installPlan b).gate.recordCounter
    normalQueue := (s.installPlan b).gate.normalQueue, urgentQueue := (s.installPlan b).gate.urgentQueue
    scanDue := (s.installPlan b).gate.scanDue } } := by
  have hmade := ((onlyRecords_cleared s).trans
    (onlyRecords_createWaves (s.planRecords b (nextPlanNumber s.gate.planCounter)) _)).trans
      (onlyRecords_releaseRecords (firstSequences (s.created b).2) (s.created b).1)
  have hgate := State.installPlan_gate b s
  have hstate : s.installPlan b = { s with gate := (s.installPlan b).gate } := rfl
  unfold onlyRecords at hmade
  rw [hstate, hgate]
  generalize (s.created b).1.releaseRecords (firstSequences (s.created b).2) = k at hmade
  rw [hmade]

/-! ### The waves of the plan -/

theorem State.created_waves {moved : Nat → Bool} (hm : moves s b moved) :
    (s.created b).2.map (fun w => (w.row, w.offset, w.delay)) = (s.slots b).map (fun w => (w.row, w.offset, w.delay)) ∧
      (s.created b).2.map (fun w => w.sequences.length) =
        (s.slots b).map (fun w => (s.fleet.row w.row).members.countP moved) ∧
      (s.created b).2.length = (s.slots b).length := by
  obtain ⟨-, -, hslots, hlens⟩ := Gate.createWaves_eq (s.planRecords b (nextPlanNumber s.gate.planCounter)) s.cleared
  obtain ⟨hs, hl⟩ := State.planRecords_slots hm (nextPlanNumber s.gate.planCounter)
  refine ⟨hslots.trans hs, hlens.trans hl, ?_⟩
  have h := congrArg List.length (hlens.trans hl)
  rwa [List.length_map, List.length_map] at h

/-! ### The records, with room for their numbers -/

/-- The records an install creates, numbered (R95, R113). -/
def State.numberedRecords (b : Build) (s : State) : List MoveRecord :=
  numberedFrom s.gate.recordCounter (s.newRecords b (nextPlanNumber s.gate.planCounter))

/-- The records an install leaves: wave 0's PENDING ones READY (R93, step 5). -/
def State.installedRecords (b : Build) (s : State) : List MoveRecord :=
  (s.numberedRecords b).map (MoveRecord.released (firstSequences (s.created b).2))

/-- Room for the records of an install: the ring in order and no wrap of the record numbers. -/
@[reducible] def roomFor (n : Nat) (s : State) : Prop :=
  n ≤ 512 ∧ ringOrdered s ∧ s.gate.recordCounter + n ≤ 4294967295

theorem State.cleared_spec (s : State) : s.cleared.recordCounter = s.gate.recordCounter ∧
    s.cleared.ring.map (·.sequence) = s.gate.ring.map (·.sequence) ∧ GateChange s.gate s.cleared := by
  have hcount : GateChange s.gate { s.gate with planCounter := nextPlanNumber s.gate.planCounter } :=
    .aux rfl rfl rfl rfl rfl rfl
  unfold State.cleared
  cases hi : s.gate.installed with
  | none =>
    rw [Gate.makeWay_none _ _ hi]
    exact ⟨rfl, rfl, hcount⟩
  | some p =>
    rw [Gate.makeWay_some _ _ hi]
    refine ⟨rfl, ?_, hcount.supersede _ _⟩
    refine (List.map_map).trans (List.map_congr_left fun r _ => ?_)
    rw [Function.comp_apply]
    split <;> rfl

theorem State.created_spec (hroom : roomFor (s.newRecords b (nextPlanNumber s.gate.planCounter)).length s) :
    (s.created b).1 = { s.cleared with
      recordCounter := s.gate.recordCounter + (s.newRecords b (nextPlanNumber s.gate.planCounter)).length
      ring := s.cleared.ring.drop
        (s.gate.ring.length + (s.newRecords b (nextPlanNumber s.gate.planCounter)).length - 1024) ++ s.numberedRecords b } ∧
      ((s.created b).2.map (·.sequences)).flatten = (s.numberedRecords b).map (·.sequence) ∧
      ((s.created b).1.ring.map (·.sequence)).Nodup := by
  obtain ⟨hn, hord, hwrap⟩ := hroom
  obtain ⟨hcounter, hseqs, hchange⟩ := State.cleared_spec s
  have hlen : s.cleared.ring.length = s.gate.ring.length := by
    have h := congrArg List.length hseqs
    rwa [List.length_map, List.length_map] at h
  obtain ⟨hgate, hnumbers, -⟩ := Gate.createWaves_eq (s.planRecords b (nextPlanNumber s.gate.planCounter)) s.cleared
  have hcreate := Gate.createRecords_eq (s.newRecords b (nextPlanNumber s.gate.planCounter)) (g := s.cleared)
    (by rw [hcounter]; exact hwrap) (by rw [hlen]; exact hord.1)
  rw [hcounter, hlen, List.drop_append_of_le_length (by rw [hlen]; omega)] at hcreate
  refine ⟨hgate.trans (congrArg Prod.fst hcreate), hnumbers.trans (congrArg Prod.snd hcreate), ?_⟩
  have hchange' : GateChange s.gate (s.created b).1 := GateChange.createWaves _ hchange
  exact ringDistinct_of_ringOrdered (s := { s with gate := (s.created b).1 }) (hchange'.ringInOrder hord)

/-- The records of the first wave are those with its numbers. -/
theorem State.mem_firstSequences {moved : Nat → Bool} (hm : moves s b moved)
    (hroom : roomFor (s.newRecords b (nextPlanNumber s.gate.planCounter)).length s) (hx : x ∈ s.numberedRecords b) :
    x.sequence ∈ firstSequences (s.created b).2 ↔ x.wave = some 0 := by
  obtain ⟨-, hord, hwrap⟩ := hroom
  obtain ⟨hcounter, hseqs, -⟩ := State.cleared_spec s
  obtain ⟨first, later, hsplit, hfirst, hzero, hlater⟩ :=
    State.newRecords_split hm (nextPlanNumber s.gate.planCounter) s.cleared
  have hlen : s.cleared.ring.length = s.gate.ring.length := by
    have h := congrArg List.length hseqs
    rwa [List.length_map, List.length_map] at h
  rw [hsplit, List.length_append] at hwrap
  rw [Gate.createRecords_eq first (by rw [hcounter]; omega) (by rw [hlen]; exact hord.1), hcounter] at hfirst
  have hmem : ∀ q, q ∈ firstSequences (s.created b).2 ↔ q ∈ (numberedFrom s.gate.recordCounter first).map (·.sequence) :=
    fun q => iff_of_eq (congrArg (q ∈ ·) hfirst)
  rw [State.numberedRecords, hsplit, numberedFrom_append, List.mem_append] at hx
  rw [hmem]
  rcases hx with hx | hx
  · refine iff_of_true (List.mem_map_of_mem hx) ?_
    obtain ⟨r, hr, hxr, -⟩ := mem_numberedFrom hx
    rw [hxr]
    exact hzero r hr
  · obtain ⟨r, hr, hxr, hlow, -⟩ := mem_numberedFrom hx
    refine iff_of_false (fun h => ?_) (by rw [hxr]; exact hlater r hr)
    obtain ⟨y, hy, hyx⟩ := List.mem_map.mp h
    obtain ⟨-, -, -, -, hhigh⟩ := mem_numberedFrom hy
    omega

end Sys2Proof.Machine
end

/-! PROOFS. The records of an install with room for their numbers (R95, R113): the ring, the normal ready queue and the counter
they leave, each record's values, and what the completion test and the notices see of them. -/

section
namespace Sys2Proof.Machine

variable {s : State} {g : Gate} {b : Build} {p : Plan} {q n : Nat} {r x : MoveRecord} {moved : Nat → Bool}

/-- The first wave's numbers are the first of all waves' numbers. -/
theorem firstSequences_sublist (ws : List Wave) : (firstSequences ws).Sublist (ws.map (·.sequences)).flatten := by
  cases ws with
  | nil => exact List.Sublist.slnil
  | cons w ws => exact List.sublist_append_left _ _

theorem numberedFrom_pairwise (n : Nat) (rs : List MoveRecord) :
    ((numberedFrom n rs).map (·.sequence)).Pairwise (· < ·) := by
  rw [numberedFrom_sequences, List.pairwise_map]
  exact List.pairwise_lt_range.imp fun h => Nat.add_lt_add_left h _

theorem eq_of_ascending {l m : List Nat} (hl : l.Pairwise (· < ·)) (hm : m.Pairwise (· < ·)) (h : ∀ q, q ∈ l ↔ q ∈ m) :
    l = m :=
  ((List.perm_ext_iff_of_nodup (hl.imp Nat.ne_of_lt) (hm.imp Nat.ne_of_lt)).mpr h).eq_of_pairwise
    (fun _ _ _ _ hab hba => absurd hab (Nat.lt_asymm hba)) hl hm

theorem State.installedRecords_sequences (b : Build) (s : State) :
    (s.installedRecords b).map (·.sequence) = (s.numberedRecords b).map (·.sequence) := by
  rw [State.installedRecords, List.map_map]
  exact List.map_congr_left fun r _ => MoveRecord.released_sequence _ r

/-- A numbered record is the record of a member of a slot's row, with its number (R95). -/
theorem State.mem_numberedRecords (hm : moves s b moved) (hx : x ∈ s.numberedRecords b) : ∃ k w t,
    (s.slots b)[k]? = some w ∧ t ∈ (s.fleet.row w.row).members ∧ moved t = true ∧
      x = { s.createdRecord b (nextPlanNumber s.gate.planCounter) k t with sequence := x.sequence } := by
  obtain ⟨r, hr, hxr, -⟩ := mem_numberedFrom hx
  obtain ⟨k, w, t, hw, ht, hmoved, rfl⟩ := (State.mem_newRecords hm).mp hr
  exact ⟨k, w, t, hw, ht, hmoved, hxr⟩

/-- A numbered record's values (R95). -/
theorem State.numberedRecord_spec (hm : moves s b moved) (hx : x ∈ s.numberedRecords b) :
    x.plan = nextPlanNumber s.gate.planCounter ∧ x.cls = .normal ∧ x.done = 0 ∧ x.segmentTarget = none ∧
      x.grantTime = none ∧ x.source = s.gate.component x.turbine ∧
      x.target = clamp (-(b.inputs.biasLimit : Int)) b.inputs.biasLimit
        (s.tables.activeBank.offset b.pair.sector b.pair.band x.turbine) ∧
      x.segments = segmentCount s.planner.params.maxStep (x.target - x.source) ∧
      ((s.fleet.dynamic x.turbine).availability = .fault →
        x.state = .skipped ∧ x.cause = some .unavailable ∧ x.finishTime = some s.now) ∧
      ((s.fleet.dynamic x.turbine).availability ≠ .fault → x.state = .pending ∧ x.cause = none ∧ x.finishTime = none) := by
  obtain ⟨k, w, t, -, -, -, hxr⟩ := State.mem_numberedRecords hm hx
  obtain ⟨c, hc⟩ : ∃ c, c = s.createdRecord b (nextPlanNumber s.gate.planCounter) k t := ⟨_, rfl⟩
  rw [← hc] at hxr
  obtain ⟨hplan, hcls, -, rfl, hrest⟩ := State.createdRecord_spec s b (nextPlanNumber s.gate.planCounter) k t hc
  obtain ⟨hdone, hseg, hgrant, hsource, htarget, hcount, hfault, hfree⟩ := hrest
  rw [hxr]
  exact ⟨hplan, hcls, hdone, hseg, hgrant, hsource, htarget, hcount, hfault, hfree⟩

theorem MoveRecord.released_values (qs : List Nat) (r : MoveRecord) : r.released qs = { r with
    state := (r.released qs).state, grantTime := (r.released qs).grantTime } := by
  unfold MoveRecord.released
  split <;> rfl

/-- What the release of the first wave makes of a record's state and grant time (R110). -/
theorem MoveRecord.released_state (qs : List Nat) (r : MoveRecord) :
    (r.released qs).state = (if r.sequence ∈ qs ∧ r.state = .pending then .ready else r.state) ∧
      (r.grantTime = none → (r.released qs).grantTime = none) := by
  unfold MoveRecord.released
  split
  · exact ⟨rfl, fun _ => rfl⟩
  · exact ⟨rfl, id⟩

/-- The records of an install, each with its values (R95). -/
theorem State.installedRecord_spec (hm : moves s b moved)
    (hroom : roomFor (s.newRecords b (nextPlanNumber s.gate.planCounter)).length s) (hr : r ∈ s.installedRecords b) :
    r.plan = nextPlanNumber s.gate.planCounter ∧ r.cls = .normal ∧ r.done = 0 ∧ r.segmentTarget = none ∧
      r.grantTime = none ∧ r.source = s.gate.component r.turbine ∧
      r.target = clamp (-(b.inputs.biasLimit : Int)) b.inputs.biasLimit
        (s.tables.activeBank.offset b.pair.sector b.pair.band r.turbine) ∧
      r.segments = (if r.target = r.source then 1
        else ((r.target - r.source).natAbs + s.planner.params.maxStep - 1) / s.planner.params.maxStep) ∧
      ((s.fleet.dynamic r.turbine).availability = .fault →
        r.state = .skipped ∧ r.cause = some .unavailable ∧ r.finishTime = some s.now) ∧
      ((s.fleet.dynamic r.turbine).availability ≠ .fault →
        r.state = (if r.wave = some 0 then .ready else .pending) ∧ r.cause = none ∧ r.finishTime = none) := by
  obtain ⟨x, hx, rfl⟩ := List.mem_map.mp hr
  obtain ⟨hplan, hcls, hdone, hseg, hgrant, hsource, htarget, hcount, hfault, hfree⟩ := State.numberedRecord_spec hm hx
  obtain ⟨hstate, hgranted⟩ := MoveRecord.released_state (firstSequences (s.created b).2) x
  have hfirst := State.mem_firstSequences hm hroom hx
  have hsegments : x.segments = if x.target = x.source then 1
      else ((x.target - x.source).natAbs + s.planner.params.maxStep - 1) / s.planner.params.maxStep :=
    hcount.trans (ite_congr (propext Int.sub_eq_zero) (fun _ => rfl) (fun _ => rfl))
  rw [MoveRecord.released_values]
  refine ⟨hplan, hcls, hdone, hseg, hgranted hgrant, hsource, htarget, hsegments, fun h => ?_, fun h => ?_⟩
  · obtain ⟨hst, hcause, hfinish⟩ := hfault h
    refine ⟨hstate.trans ((if_neg ?_).trans hst), hcause, hfinish⟩
    rw [hst]
    exact fun hp => nomatch hp.2
  · obtain ⟨hst, hcause, hfinish⟩ := hfree h
    refine ⟨?_, hcause, hfinish⟩
    rw [hstate, hst]
    exact ite_congr (propext ((and_iff_left rfl).trans hfirst)) (fun _ => rfl) (fun _ => rfl)

/-- Of the records of an install the READY ones are those of the first wave that are not SKIPPED (R93, step 5). -/
theorem State.installedRecords_ready (hm : moves s b moved) (hx : x ∈ s.numberedRecords b) :
    (x.released (firstSequences (s.created b).2)).state = .ready ↔
      x.sequence ∈ firstSequences (s.created b).2 ∧ x.state = .pending := by
  obtain ⟨-, -, -, -, -, -, -, -, hfault, hfree⟩ := State.numberedRecord_spec hm hx
  rw [(MoveRecord.released_state _ x).1]
  split
  · next h => exact iff_of_true rfl h
  · next h =>
    refine iff_of_false (fun hready => ?_) h
    by_cases hf : (s.fleet.dynamic x.turbine).availability = .fault
    · rw [(hfault hf).1] at hready
      cases hready
    · rw [(hfree hf).1] at hready
      cases hready

/-- The ring, the queue and the counter that an install leaves (R93-R95, R113, R114). -/
theorem State.installPlan_records (hm : moves s b moved)
    (hroom : roomFor (s.newRecords b (nextPlanNumber s.gate.planCounter)).length s) :
    (s.installPlan b).gate.recordCounter =
        s.gate.recordCounter + (s.newRecords b (nextPlanNumber s.gate.planCounter)).length ∧
      (s.installPlan b).gate.ring = s.cleared.ring.drop
        (s.gate.ring.length + (s.newRecords b (nextPlanNumber s.gate.planCounter)).length - 1024) ++ s.installedRecords b ∧
      (s.installPlan b).gate.normalQueue = s.cleared.normalQueue ++
        ((s.installedRecords b).filter (fun r => decide (r.state = .ready))).map (·.sequence) := by
  obtain ⟨hcreated, hflat, hdistinct⟩ := State.created_spec hroom
  obtain ⟨added, hrelease, hsub, hadded⟩ := Gate.releaseRecords_spec (firstSequences (s.created b).2) hdistinct
  obtain ⟨d, hd⟩ : ∃ d, d = s.gate.ring.length + (s.newRecords b (nextPlanNumber s.gate.planCounter)).length - 1024 := ⟨_, rfl⟩
  rw [← hd] at hcreated ⊢
  have hring : (s.created b).1.ring = s.cleared.ring.drop d ++ s.numberedRecords b := by rw [hcreated]
  rw [hring] at hdistinct hadded
  have hfirst : (firstSequences (s.created b).2).Sublist ((s.numberedRecords b).map (·.sequence)) :=
    hflat ▸ firstSequences_sublist _
  have hold : ∀ r ∈ s.cleared.ring.drop d, r.sequence ∉ firstSequences (s.created b).2 := by
    intro r hr hmem
    rw [List.map_append] at hdistinct
    obtain ⟨-, -, happart⟩ := List.nodup_append.mp hdistinct
    exact happart _ (List.mem_map_of_mem hr) _ (hfirst.subset hmem) rfl
  have hkept : (s.cleared.ring.drop d).map (MoveRecord.released (firstSequences (s.created b).2)) = s.cleared.ring.drop d :=
    (List.map_congr_left fun r hr => if_neg fun h => hold r hr h.1).trans (List.map_id _)
  have hqueue : added = ((s.installedRecords b).filter (fun r => decide (r.state = .ready))).map (·.sequence) := by
    have hpair := numberedFrom_pairwise s.gate.recordCounter (s.newRecords b (nextPlanNumber s.gate.planCounter))
    refine eq_of_ascending (hpair.sublist (hsub.trans hfirst)) (hpair.sublist ?_) fun q => ?_
    · have hready := List.Sublist.map (·.sequence) (List.filter_sublist (l := s.installedRecords b)
        (p := fun r => decide (r.state = .ready)))
      rw [State.installedRecords_sequences] at hready
      exact hready
    · rw [hadded, List.mem_map]
      constructor
      · rintro ⟨hq, r, hr, rfl, hst⟩
        have hnew : r ∈ s.numberedRecords b := (List.mem_append.mp hr).resolve_left fun h => hold r h hq
        refine ⟨r.released _, List.mem_filter.mpr ⟨List.mem_map_of_mem hnew, decide_eq_true ?_⟩,
          MoveRecord.released_sequence _ r⟩
        exact (State.installedRecords_ready hm hnew).mpr ⟨hq, hst⟩
      · rintro ⟨y, hy, rfl⟩
        obtain ⟨hmem, hst⟩ := List.mem_filter.mp hy
        obtain ⟨x, hx, rfl⟩ := List.mem_map.mp hmem
        obtain ⟨hq, hpend⟩ := (State.installedRecords_ready hm hx).mp (of_decide_eq_true hst)
        rw [MoveRecord.released_sequence]
        exact ⟨hq, x, List.mem_append_right _ hx, rfl, hpend⟩
  rw [State.installPlan_gate, hrelease, hring, List.map_append, hkept, hqueue, hcreated]
  exact ⟨rfl, rfl, rfl⟩

end Sys2Proof.Machine
end

/-! PROOFS. The install as one event (section 6.4, R93-R97, R111): the reports and notices of the plan made, the completion
test of a plan of one wave, the next build, and the statement. -/

section
namespace Sys2Proof.Machine

variable {s t u v : State} {b : Build} {p : Plan} {q n : Nat} {r x : MoveRecord} {moved : Nat → Bool}

/-! ### Reports and notices -/

theorem State.notifySkipped_eq (rs : List MoveRecord) (s : State) : s.notifySkipped rs = { s with
    notices := s.notices ++ rs.map (fun r => .moveSkipped r.sequence r.turbine .unavailable) } := by
  induction rs generalizing s with
  | nil =>
    rw [List.map_nil, List.append_nil]
    rfl
  | cons r rs ih =>
    rw [State.notifySkipped, ih, List.map_cons]
    simp only [State.notify, List.append_assoc, List.cons_append, List.nil_append]

/-- The reports of an install (R97). -/
def State.installReports (b : Build) (s : State) : List Instr :=
  [.swapConditionReport (.planInstalled true), .installReport ⟨nextPlanNumber s.gate.planCounter, b.pair, b.inputs.trim,
    (s.created b).2.map (fun w => ⟨w.row, w.delay⟩), s.gate.installed.map (·.number)⟩]

/-- The records that an install creates SKIPPED, as they stand in the ring (R97). -/
def State.skips (b : Build) (s : State) : List MoveRecord :=
  (s.installPlan b).gate.planRecordsIn (nextPlanNumber s.gate.planCounter) .skipped (s.created b).2

/-- The notices of an install (R97). -/
def State.installNotices (b : Build) (s : State) : List Notice :=
  .installed (nextPlanNumber s.gate.planCounter) b.pair (s.created b).2.length
      (((s.created b).2.map fun w => w.sequences.length).sum - (s.skips b).length) (s.skips b).length
      ((s.gate.installed.map (·.number)).getD 0) ::
    (s.skips b).map (fun r => .moveSkipped r.sequence r.turbine .unavailable)

/-- The state of a plan made and reported, before the completion test (R93, R97). -/
def State.planMade (b : Build) (s : State) : State :=
  { s.installPlan b with
    reports := s.reports ++ s.installReports b, notices := s.notices ++ s.installNotices b }

theorem State.installPlan_installed (b : Build) (s : State) : (s.installPlan b).gate.installed = some (s.planInstalled b) := by
  rw [State.installPlan_frame]

theorem State.reportInstall_planMade (b : Build) (s : State) :
    (s.installPlan b).reportInstall (s.planInstalled b) b.inputs.trim
      (((s.planInstalled b).waves.map fun (w : Wave) => w.sequences.length).sum -
        ((s.installPlan b).gate.planRecordsIn (s.planInstalled b).number .skipped (s.planInstalled b).waves).length)
      ((s.installPlan b).gate.planRecordsIn (s.planInstalled b).number .skipped (s.planInstalled b).waves).length
      (s.gate.installed.map (·.number))
      ((s.installPlan b).gate.planRecordsIn (s.planInstalled b).number .skipped (s.planInstalled b).waves) = s.planMade b := by
  unfold State.reportInstall
  dsimp only
  rw [State.notifySkipped_eq]
  simp only [State.planMade, State.report, State.notify, State.installReports, State.installNotices, State.skips,
    List.append_assoc, List.cons_append, List.nil_append]
  rfl

/-- The install before what an entry already taken makes of the plan (R93-R97, R111). -/
def State.planTested (b : Build) (s : State) : State :=
  if (s.created b).2.length ≤ 1 then (s.planMade b).testCompletion else s.planMade b

theorem State.installed_eq (b : Build) (s : State) :
    s.installed b = ((s.planTested b).abortAfterEntry.endBuild).tryBuild := by
  unfold State.installed
  dsimp only
  rw [State.installPlan_installed]
  dsimp only
  rw [State.reportInstall_planMade]
  rfl

theorem exec_install (hp : s.powered = true) (hb : s.planner.build = some b) (hk : b.kind = .retarget) :
    exec .install s = .next (s.installed b) := by
  simp only [exec, execInstall, State.event_powered hp, hb, hk]

/-! ### The entry already taken -/

/-- Reports that no block takes as a change of mode leave the entry that the Gate has taken ahead of the Planner (R168). -/
theorem State.entryTaken_of_reports {more : List Instr} (hr : t.reports = s.reports ++ more)
    (hm : t.gate.modeIn = s.gate.modeIn) (hmore : ∀ c ∈ more, plannerReportOf c = none ∧ gateReportOf c = none) :
    t.entryTaken = s.entryTaken := by
  have hplanner : more.filterMap plannerReportOf = [] := List.filterMap_eq_nil_iff.mpr fun c hc => (hmore c hc).1
  have hgate : more.filterMap gateReportOf = [] := List.filterMap_eq_nil_iff.mpr fun c hc => (hmore c hc).2
  have hcontains : ∀ m, gateReportOf (.gateModeChange m) ≠ none →
      (s.reports ++ more).contains (.gateModeChange m) = s.reports.contains (.gateModeChange m) := by
    intro m hne
    have hnot : (Instr.gateModeChange m) ∉ more := fun h => hne (hmore _ h).2
    rw [Bool.eq_iff_iff, List.contains_iff_mem, List.contains_iff_mem, List.mem_append, or_iff_left hnot]
  have hahead : t.gateAhead = s.gateAhead := by
    simp only [State.gateAhead, hr, List.filterMap_append, hplanner, hgate, List.append_nil]
  simp only [State.entryTaken, hahead, hm, hr, hcontains .live (by decide), hcontains .dry (by decide)]

/-! ### The next build -/

/-- Once a build has ended the next one starts within the event under R87's conditions, or nothing follows. -/
theorem tryBuild_follows (hp : u.powered = true) (hplanner : u.planner = { s.planner with build := none })
    (hwind : u.wind = s.wind) (htables : u.tables = s.tables) :
    ((s.planner.latch = none ∨ ¬ inSteering s.planner.modeIn ∨ s.planner.holdIn = true ∨ s.planner.commitIn = true) →
      u.tryBuild = u) ∧
    (∀ q, s.planner.latch = some q → inSteering s.planner.modeIn → s.planner.holdIn = false →
      s.planner.commitIn = false → ∃ v, trimsSettled u v ∧
        v = { u with monitor := v.monitor, reports := v.reports, notices := v.notices } ∧
        u.tryBuild = { v with
          planner := { s.planner with
            latch := none
            build := some ⟨.retarget, q, ⟨s.wind.speed, v.monitor.trim q.sector, s.planner.params.gapMin,
              s.planner.params.gapMax, s.planner.params.floor, s.planner.params.biasLimit⟩⟩ }
          tables := { s.tables with plannerBuilding := true }
          reports := v.reports.erase (.swapConditionReport (.plannerBuilding false)) }) ∧
    u.tryBuild.gate = u.gate := by
  have hstart : ∀ q, u.planner.latch = some q → u.planner.mayBuild = true → u.tryBuild = u.startBuild q :=
    fun q hl hm => State.tryBuild_of_mayBuild hl hm
  refine ⟨fun hno => State.tryBuild_of_not ?_, fun q hl hm hh hc => ?_, ?_⟩
  · rw [Planner.mayBuild_iff, hplanner]
    rintro ⟨h1, -, h3, h4, h5⟩
    rcases hno with h | h | h | h
    · exact h1 h
    · exact h h3
    · exact Bool.false_ne_true (h4.symm.trans h)
    · exact Bool.false_ne_true (h5.symm.trans h)
  · have hmay : u.planner.mayBuild = true := by
      rw [Planner.mayBuild_iff, hplanner]
      exact ⟨by simp [hl], rfl, hm, hh, hc⟩
    refine ⟨_, trimsSettled_settleTrims hp, State.settleTrims_frame _, ?_⟩
    rw [hstart q (by rw [hplanner]; exact hl) hmay, State.startBuild_eq, hwind, htables]
    simp only [hplanner]
  · unfold State.tryBuild
    split
    · rfl
    · split
      · rw [State.startBuild_eq, State.settleTrims_frame]
      · rfl

/-! ### What the ring holds of the plan -/

/-- Room for an install: for its records, and no record of the plan's number in the ring. -/
@[reducible] def roomForPlan (b : Build) (s : State) : Prop :=
  roomFor (s.newRecords b (nextPlanNumber s.gate.planCounter)).length s ∧
    ∀ r ∈ s.gate.ring, r.plan ≠ nextPlanNumber s.gate.planCounter

/-- The superseded plan's waiting records finish and leave the queue (R94). -/
theorem State.cleared_records (hord : ringOrdered s) :
    s.cleared.ring = s.gate.ring.map (fun r => if r.sequence ∈ s.gate.installedWaiting then { r with
        state := .superseded, cause := none, finishTime := some s.now, segmentTarget := none, grantTime := none } else r) ∧
      s.cleared.normalQueue = s.gate.normalQueue.filter (fun q => decide (q ∉ s.gate.installedWaiting)) :=
  Gate.makeWay_records _ _ (ringDistinct_of_ringOrdered hord)

theorem State.cleared_plan (hroom : roomForPlan b s) (hr : r ∈ s.cleared.ring) :
    r.plan ≠ nextPlanNumber s.gate.planCounter := by
  obtain ⟨⟨-, hord, -⟩, hplan⟩ := hroom
  rw [(State.cleared_records hord).1] at hr
  obtain ⟨y, hy, rfl⟩ := List.mem_map.mp hr
  have h := hplan y hy
  split
  · exact h
  · exact h

/-- What the ring holds of the plan after an install are the records it created. -/
theorem State.installPlan_filter (hm : moves s b moved) (hroom : roomForPlan b s) {f g : MoveRecord → Bool}
    (hold : ∀ r, r.plan ≠ nextPlanNumber s.gate.planCounter → f r = false) (hnew : ∀ r ∈ s.installedRecords b, f r = g r) :
    (s.installPlan b).gate.ring.filter f = (s.installedRecords b).filter g := by
  obtain ⟨-, hring, -⟩ := State.installPlan_records hm hroom.1
  have hnone : ∀ d, (s.cleared.ring.drop d).filter f = [] := fun d => List.filter_eq_nil_iff.mpr fun r hr =>
    Bool.not_eq_true _ ▸ hold r (State.cleared_plan hroom (List.mem_of_mem_drop hr))
  rw [hring, List.filter_append, hnone, List.nil_append]
  exact List.filter_congr hnew

theorem State.skips_eq (hm : moves s b moved) (hroom : roomForPlan b s) :
    s.skips b = (s.installedRecords b).filter (fun r => decide (r.state = .skipped)) := by
  obtain ⟨-, hflat, -⟩ := State.created_spec hroom.1
  refine State.installPlan_filter hm hroom (fun r hr => ?_) fun r hr => ?_
  · rw [MoveRecord.ofPlan, beq_eq_false_iff_ne.mpr hr, Bool.and_false, Bool.false_and, Bool.false_and]
  · obtain ⟨hplan, hcls, -⟩ := State.installedRecord_spec hm hroom.1 hr
    have hwave : ((s.created b).2.any fun w => w.sequences.contains r.sequence) = true := by
      have hmem : r.sequence ∈ ((s.created b).2.map (·.sequences)).flatten := by
        rw [hflat, ← State.installedRecords_sequences]
        exact List.mem_map_of_mem hr
      obtain ⟨l, hl, hrl⟩ := List.mem_flatten.mp hmem
      obtain ⟨w, hw, rfl⟩ := List.mem_map.mp hl
      exact List.any_eq_true.mpr ⟨w, hw, List.contains_iff_mem.mpr hrl⟩
    rw [hwave, MoveRecord.ofPlan_iff.mpr ⟨hcls, hplan⟩, Bool.and_true, Bool.true_and]
    rfl

theorem State.installPlan_countP (hm : moves s b moved) (hroom : roomForPlan b s) (st : RecordState) :
    (s.installPlan b).gate.ring.countP (fun r => decide (r.cls = .normal ∧ r.plan = nextPlanNumber s.gate.planCounter ∧
      r.state = st)) = ((s.installedRecords b).filter (fun r => decide (r.state = st))).length := by
  rw [List.countP_eq_length_filter, State.installPlan_filter hm hroom (g := fun r => decide (r.state = st))]
  · exact fun r hr => decide_eq_false fun h => hr h.2.1
  · intro r hr
    obtain ⟨hplan, hcls, -⟩ := State.installedRecord_spec hm hroom.1 hr
    exact decide_eq_decide.mpr ⟨fun h => h.2.2, fun h => ⟨hcls, hplan, h⟩⟩

/-- An install's records are SKIPPED for the FAULT members of its rows, and unfinished for the others it moves (R95). -/
theorem State.installPlan_finished (hm : moves s b moved) (hroom : roomForPlan b s) :
    (∀ r ∈ (s.installPlan b).gate.ring, r.cls = .normal → r.plan = nextPlanNumber s.gate.planCounter →
      r.state.finished = true) ↔
    ∀ w ∈ s.slots b, ∀ i ∈ (s.fleet.row w.row).members, moved i = true → (s.fleet.dynamic i).availability = .fault := by
  obtain ⟨-, hring, -⟩ := State.installPlan_records hm hroom.1
  rw [hring]
  constructor
  · intro h w hw i hi hmoved
    obtain ⟨k, hk⟩ := List.getElem?_of_mem hw
    obtain ⟨x, hx, hxr⟩ : ∃ x ∈ s.numberedRecords b, x.turbine = i := by
      have hnew := (State.mem_newRecords hm (plan := nextPlanNumber s.gate.planCounter)).mpr ⟨k, w, i, hk, hi, hmoved, rfl⟩
      have hturbine := numberedFrom_map (fun r => r.turbine) (fun _ _ => rfl) s.gate.recordCounter
        (s.newRecords b (nextPlanNumber s.gate.planCounter))
      have hmem := List.mem_map_of_mem (f := fun r : MoveRecord => r.turbine) hnew
      rw [← hturbine] at hmem
      obtain ⟨x, hx, hxt⟩ := List.mem_map.mp hmem
      obtain ⟨-, -, -, ht, -⟩ := State.createdRecord_spec s b (nextPlanNumber s.gate.planCounter) k i rfl
      exact ⟨x, hx, hxt.trans ht⟩
    have hr : x.released (firstSequences (s.created b).2) ∈ s.installedRecords b := List.mem_map_of_mem hx
    obtain ⟨hplan, hcls, -, -, -, -, -, -, -, hfree⟩ := State.installedRecord_spec hm hroom.1 hr
    have hfin := h _ (List.mem_append_right _ hr) hcls hplan
    have hturbine : (x.released (firstSequences (s.created b).2)).turbine = i := by
      rw [MoveRecord.released_values]
      exact hxr
    rw [hturbine] at hfree
    refine Classical.byContradiction fun hno => ?_
    rw [(hfree hno).1] at hfin
    split at hfin <;> cases hfin
  · intro h r hr _ hplan
    rcases List.mem_append.mp hr with hr | hr
    · exact absurd hplan (State.cleared_plan hroom (List.mem_of_mem_drop hr))
    · obtain ⟨x, hx, rfl⟩ := List.mem_map.mp hr
      obtain ⟨k, w, t, hw, ht, hmoved, hxr⟩ := State.mem_numberedRecords hm hx
      obtain ⟨-, -, -, -, -, -, -, -, hfault, -⟩ := State.installedRecord_spec hm hroom.1 hr
      have hturbine : (x.released (firstSequences (s.created b).2)).turbine = t := by
        obtain ⟨-, -, -, ht, -⟩ := State.createdRecord_spec s b (nextPlanNumber s.gate.planCounter) k t rfl
        rw [MoveRecord.released_values, hxr]
        exact ht
      rw [hturbine] at hfault
      rw [(hfault (h w (List.mem_of_getElem? hw) t ht hmoved)).1]
      rfl

theorem State.installedRecords_members (hm : moves s b moved) : (s.installedRecords b).map (fun r => (r.wave, r.turbine)) =
    ((s.slots b).zipIdx.map (fun x =>
      ((s.fleet.row x.1.row).members.filter moved).map (fun i => (some x.2, i)))).flatten := by
  have hreleased : (s.installedRecords b).map (fun r => (r.wave, r.turbine)) =
      (s.numberedRecords b).map (fun r => (r.wave, r.turbine)) := by
    rw [State.installedRecords, List.map_map]
    refine List.map_congr_left fun r _ => ?_
    rw [Function.comp_apply, MoveRecord.released_values]
  rw [hreleased, State.numberedRecords, numberedFrom_map _ (fun _ _ => rfl), State.newRecords_eq hm, List.map_flatten,
    List.map_map]
  refine congrArg _ (List.map_congr_left fun x _ => ?_)
  rw [Function.comp_apply, List.map_map]
  refine List.map_congr_left fun i _ => ?_
  obtain ⟨-, -, hwave, hturbine, -⟩ := State.createdRecord_spec s b (nextPlanNumber s.gate.planCounter) x.2 i rfl
  rw [Function.comp_apply, hwave, hturbine]

theorem State.installedRecords_range (b : Build) (s : State) : (s.installedRecords b).map (·.sequence) =
    (List.range (s.newRecords b (nextPlanNumber s.gate.planCounter)).length).map (fun k => s.gate.recordCounter + 1 + k) := by
  rw [State.installedRecords_sequences, State.numberedRecords, numberedFrom_sequences]

/-! ### The statement -/

/-- The install leaves all but the Gate, the reports and the notices; of the Gate a completion test leaves all but the plans. -/
theorem State.planTested_frame (b : Build) (s : State) : s.planTested b = { s with
    gate := { (s.installPlan b).gate with
      installed := (s.planTested b).gate.installed, last := (s.planTested b).gate.last }
    reports := (s.planTested b).reports, notices := (s.planTested b).notices } := by
  unfold State.planTested
  split
  · rw [State.testCompletion_frame]
    rfl
  · rfl

/-- A plan of several waves, or with a record unfinished, stays installed (R111). -/
theorem State.planTested_kept (hm : moves s b moved) (h : 2 ≤ (s.slots b).length ∨ roomForPlan b s)
    (hno : ¬ ((s.slots b).length ≤ 1 ∧ ∀ w ∈ s.slots b, ∀ i ∈ (s.fleet.row w.row).members, moved i = true →
      (s.fleet.dynamic i).availability = .fault)) : s.planTested b = s.planMade b := by
  obtain ⟨-, -, hlen⟩ := State.created_waves hm
  unfold State.planTested
  rw [hlen]
  split
  · next hle =>
    have hroom := h.resolve_left (by omega)
    refine State.testCompletion_kept (State.installPlan_installed b s) (.inr ?_)
    have hfin := fun hall => hno ⟨hle, (State.installPlan_finished hm hroom).mp hall⟩
    refine Classical.byContradiction fun hnone => ?_
    refine hfin fun r hr hc hp => eq_true_of_ne_false fun hf => hnone ⟨r, hr, hc, hp, hf⟩
  · rfl

/-- A plan of at most one wave with every record SKIPPED is COMPLETE at once (R111). -/
theorem State.planTested_done (hm : moves s b moved) (hroom : roomForPlan b s) (hle : (s.slots b).length ≤ 1)
    (hall : ∀ w ∈ s.slots b, ∀ i ∈ (s.fleet.row w.row).members, moved i = true → (s.fleet.dynamic i).availability = .fault) :
    s.planTested b = (s.planMade b).completePlan (s.planInstalled b) := by
  obtain ⟨-, -, hlen⟩ := State.created_waves hm
  unfold State.planTested
  rw [if_pos (by rw [hlen]; exact hle)]
  refine State.testCompletion_done (State.installPlan_installed b s) (by rw [← hlen] at hle; exact hle) ?_
  exact (State.installPlan_finished hm hroom).mpr hall

/-- The reports of an install are no reports of a change of mode. -/
theorem installReports_modeless (b : Build) (s : State) : ∀ c ∈ s.installReports b,
    plannerReportOf c = none ∧ gateReportOf c = none := by
  unfold State.installReports
  simp [plannerReportOf, gateReportOf]

/-- With no entry taken ahead of the Planner the install runs on (R168). -/
theorem State.planTested_runsOn (h : s.entryTaken = none) : (s.planTested b).abortAfterEntry = s.planTested b := by
  have hmodeIn : (s.installPlan b).gate.modeIn = s.gate.modeIn := by rw [State.installPlan_frame]
  have hmade : (s.planMade b).entryTaken = none :=
    (State.entryTaken_of_reports (t := s.planMade b) rfl hmodeIn (installReports_modeless b s)).trans h
  have hkept : (s.planMade b).abortAfterEntry = s.planMade b := by
    unfold State.abortAfterEntry
    rw [hmade]
    split <;> rfl
  unfold State.planTested
  split
  · by_cases hdone : (s.planMade b).testCompletion = s.planMade b
    · rw [hdone, hkept]
    · have hinst : (s.planMade b).testCompletion.gate.installed = none := by
        unfold State.testCompletion at hdone ⊢
        split
        · next hi => exact hi
        · next hi =>
          rw [hi] at hdone
          split
          · rfl
          · next hno => exact absurd (if_neg hno) hdone
      unfold State.abortAfterEntry
      rw [hinst]
  · exact hkept

end Sys2Proof.Machine
end

/-! PROOFS. The statement about the install that runs on (O38): each part is a lemma about the plan made, tested and reported. -/

section
namespace Sys2Proof.Machine

variable {s : State} {b : Build} {moved : Nat → Bool}

/-- The completion of a plan at its install: every record of it in the ring is SKIPPED (R111). -/
theorem State.completePlan_planMade (hm : moves s b moved) (hroom : roomForPlan b s)
    (hall : ∀ w ∈ s.slots b, ∀ i ∈ (s.fleet.row w.row).members, moved i = true → (s.fleet.dynamic i).availability = .fault) :
    (s.planMade b).completePlan (s.planInstalled b) = { s.planMade b with
      gate := { (s.installPlan b).gate with
        installed := none, last := some { s.planInstalled b with state := .complete } }
      reports := s.reports ++ s.installReports b ++ [.swapConditionReport (.planInstalled false),
        .completionReport (nextPlanNumber s.gate.planCounter)]
      notices := s.notices ++ s.installNotices b ++
        [.complete (nextPlanNumber s.gate.planCounter) b.pair 0 0 0 0 (s.skips b).length] } := by
  have hskipped : ∀ r ∈ s.installedRecords b, r.state = .skipped := by
    intro r hr
    obtain ⟨hplan, hcls, -, -, -, -, -, -, hfault, hfree⟩ := State.installedRecord_spec hm hroom.1 hr
    obtain ⟨-, hring, -⟩ := State.installPlan_records hm hroom.1
    have hfin := (State.installPlan_finished hm hroom).mpr hall r (by rw [hring]; exact List.mem_append_right _ hr) hcls hplan
    by_cases hf : (s.fleet.dynamic r.turbine).availability = .fault
    · exact (hfault hf).1
    · rw [(hfree hf).1] at hfin
      split at hfin <;> cases hfin
  have hnone : ∀ st : RecordState, st ≠ .skipped →
      ((s.installedRecords b).filter (fun r => decide (r.state = st))).length = 0 := by
    intro st hst
    rw [List.length_eq_zero_iff, List.filter_eq_nil_iff]
    intro r hr h
    exact hst ((of_decide_eq_true h).symm.trans (hskipped r hr))
  have hcount : ∀ st, (s.planMade b).gate.ring.countP (fun r => decide (r.cls = .normal ∧
      r.plan = (s.planInstalled b).number ∧ r.state = st)) =
        ((s.installedRecords b).filter (fun r => decide (r.state = st))).length := State.installPlan_countP hm hroom
  rw [State.completePlan_eq, hcount, hcount, hcount, hnone .settled (by decide), hnone .failed (by decide),
    ← State.skips_eq hm hroom]
  rfl

theorem State.installNotices_eq (hm : moves s b moved) : s.installNotices b =
    .installed (nextPlanNumber s.gate.planCounter) b.pair (s.slots b).length
      ((s.newRecords b (nextPlanNumber s.gate.planCounter)).length - (s.skips b).length) (s.skips b).length
      (match s.gate.installed with | some o => o.number | none => 0) ::
    (s.skips b).map (fun r => .moveSkipped r.sequence r.turbine .unavailable) := by
  obtain ⟨-, hlens, hlen⟩ := State.created_waves hm
  have hold : (s.gate.installed.map (·.number)).getD 0 = match s.gate.installed with | some o => o.number | none => 0 := by
    cases s.gate.installed <;> rfl
  rw [State.installNotices, hlens, hlen, State.newRecords_length hm, hold]

/-- Settles O38: the plan made and reported, its completion test, the build ended and the next one tried; with room the records
are the ones created. -/
theorem installReplacesThePlan : Obligations.InstallReplacesThePlan := by
  unfold Obligations.InstallReplacesThePlan
  intro s b number n slots moved room done hp hb hk hentry hnumber hslots hm hn hroom hdone
  obtain rfl : number = nextPlanNumber s.gate.planCounter := hnumber
  obtain rfl : slots = s.slots b := hslots
  obtain rfl : n = (s.newRecords b (nextPlanNumber s.gate.planCounter)).length := hn.trans (State.newRecords_length hm _).symm
  obtain ⟨hwaves, hlens, hlen⟩ := State.created_waves hm
  have hroom' : room → roomForPlan b s := by
    intro h
    obtain ⟨h512, hord, hwrap, hplan⟩ := hroom.mp h
    exact ⟨⟨h512, hord, hwrap⟩, hplan⟩
  obtain ⟨v, hv⟩ : ∃ v, v = s.planTested b := ⟨_, rfl⟩
  have hframe := State.planTested_frame b s
  have hplan := State.installPlan_frame b s
  have hexec : exec .install s = .next v.endBuild.tryBuild := by
    rw [exec_install hp hb hk, State.installed_eq, State.planTested_runsOn hentry, hv]
  rw [← hv] at hframe
  have hkept : 2 ≤ (s.slots b).length ∨ room → ¬ done → v = s.planMade b := fun h hno =>
    hv.trans (State.planTested_kept hm (h.imp_right hroom') fun hall => hno (hdone.mpr hall))
  have hcomplete : room → done → v = (s.planMade b).completePlan (s.planInstalled b) := fun h hall =>
    hv.trans (State.planTested_done hm (hroom' h) (hdone.mp hall).1 (hdone.mp hall).2)
  obtain ⟨u, hu⟩ : ∃ u, u = v.endBuild := ⟨_, rfl⟩
  obtain ⟨hidle, hbuild, hgate⟩ := tryBuild_follows (s := s) (u := u) (by rw [hu, hframe]; exact hp) (by rw [hu, hframe]; rfl)
    (by rw [hu, hframe]; rfl) (by rw [hu, hframe]; rfl)
  have hug : u.gate = v.gate := by rw [hu]; rfl
  have hur : u.reports = v.reports ++ [.swapConditionReport (.plannerBuilding false)] := by rw [hu]; rfl
  have hun : u.notices = v.notices := by rw [hu]; rfl
  refine ⟨u.tryBuild, u, s.planInstalled b, _, by rw [hu]; exact hexec, ?_, ?_, ?_, ?_, ?_, rfl, rfl, rfl, rfl, rfl, rfl, rfl,
    ?_, hwaves, hlens, fun h hno => ?_, fun h hall => ?_, rfl, fun h hno => ?_, fun h hall => ?_, hidle, hbuild, fun h => ?_⟩
  · rw [hgate, hug, hframe, hplan]
  · rw [hgate, hu, hframe]
    rfl
  · rw [hgate, hug, hframe, hplan]
  · rw [hgate, hug, hframe, hplan]
  · rw [hgate, hug, hframe, hplan]
  · rw [← hlen]
    rfl
  · rw [hgate, hug, hkept h hno]
    exact ⟨State.installPlan_installed b s, congrArg (fun x : State => x.gate.last) hplan⟩
  · rw [hgate, hug, hcomplete h hall, State.completePlan_planMade hm (hroom' h) (hdone.mp hall).2]
    exact ⟨rfl, rfl⟩
  · rw [hur, hkept h hno]
    exact List.append_assoc ..
  · rw [hur, hcomplete h hall, State.completePlan_planMade hm (hroom' h) (hdone.mp hall).2]
    exact (List.append_assoc (s.reports ++ s.installReports b) _ _).trans (List.append_assoc s.reports _ _)
  · have hplanRoom := hroom' h
    obtain ⟨hfor, -⟩ := hroom' h
    obtain ⟨-, hord, -⟩ := hroom.mp h
    obtain ⟨hcounter, hring, hqueue⟩ := State.installPlan_records hm hfor
    obtain ⟨-, hflat, -⟩ := State.created_spec hfor
    obtain ⟨hclearedRing, hclearedQueue⟩ := State.cleared_records hord
    have hskips := State.skips_eq hm hplanRoom
    refine ⟨s.installedRecords b, s.gate.installedWaiting, s.skips b, rfl, hskips, ?_, ?_, ?_, ?_,
      State.installedRecords_range b s, hflat.trans (State.installedRecords_sequences b s).symm,
      State.installedRecords_members hm, fun r hr => ?_⟩
    · rw [hgate, hug, hframe]
      exact hcounter
    · rw [hgate, hug, hframe, ← hclearedRing]
      exact hring
    · rw [hgate, hug, hframe, ← hclearedQueue]
      exact hqueue
    · rw [hun, hgate, hug]
      refine Eq.trans ?_ (congrArg (fun l => s.notices ++ l ++ _) (State.installNotices_eq hm))
      by_cases hall : done
      · have hv' := (hcomplete h hall).trans (State.completePlan_planMade hm hplanRoom (hdone.mp hall).2)
        rw [if_pos (by rw [hv']), hv']
      · have hv' := hkept (.inr h) hall
        have hinstalled : v.gate.installed = some (s.planInstalled b) := by
          rw [hv']
          exact State.installPlan_installed b s
        rw [if_neg (by rw [hinstalled]; exact Option.some_ne_none _), hv',
          List.append_nil]
        rfl
    · exact State.installedRecord_spec hm hfor hr

end Sys2Proof.Machine
end

/-! PROOFS. The install after an entry to UNWIND or OFF (R168): the plan made ends ABORTED in the same event, and its waiting
records are cancelled. -/

section
namespace Sys2Proof.Machine

variable {s : State} {b : Build} {m : Mode} {p : Plan} {r : MoveRecord} {n q : Nat} {moved : Nat → Bool}

/-- The entry that the Gate has taken ahead of the Planner is one to OFF or UNWIND (R168). -/
theorem State.entryTaken_rests (h : s.entryTaken = some m) : m = .off ∨ m = .unwind := by
  have hsteer : steering m = false := by
    unfold State.entryTaken at h
    split at h
    · next m' hfind =>
      obtain rfl := Option.some_inj.mp h
      simpa using List.find?_some hfind
    · split at h
      · cases h
      · next hrest =>
        obtain rfl := Option.some_inj.mp h
        simp only [Bool.or_eq_true, not_or, Bool.not_eq_true] at hrest
        obtain ⟨⟨hsteer, -⟩, -⟩ := hrest
        exact hsteer
  cases m with
  | off => exact .inl rfl
  | unwind => exact .inr rfl
  | live => cases hsteer
  | dry => cases hsteer

/-- The cause with which an entry finishes the records of the plan made under it (R168). -/
def entryCause (m : Mode) : FinishCause := if m = .off then .disable else .abort

/-- A record that waits for the plan is cancelled (R168). -/
def MoveRecord.cancelledBy (n : Nat) (c : FinishCause) (second : Nat) (r : MoveRecord) : MoveRecord :=
  if r.waitsFor n then { r with
    state := .cancelled, cause := some c, finishTime := some second, segmentTarget := none, grantTime := none } else r

/-- What an entry taken ahead of the Planner makes of the plan that stands installed (R168). -/
theorem State.abortAfterEntry_eq (hi : s.gate.installed = some p) (h : s.entryTaken = some m) :
    ∃ flights, s.abortAfterEntry = { s with
        gate := { s.gate with
          installed := none, last := some { p with state := .aborted }, flights := flights
          ring := s.gate.ring.map (MoveRecord.cancelledBy p.number (entryCause m) s.now)
          normalQueue := s.gate.normalQueue.filter (fun q => decide (q ∉ s.gate.waitingNumbers p.number))
          urgentQueue := s.gate.urgentQueue.filter (fun q => decide (q ∉ s.gate.waitingNumbers p.number)) }
        reports := s.reports ++ [.swapConditionReport (.planInstalled false), .abortReport p.number]
        notices := s.notices ++ [.aborted p.number (if m = .off then .disable else .unwind) p.failures] } ∧
      flights.map (·.turbine) = s.gate.flights.map (·.turbine) := by
  rcases State.entryTaken_rests h with rfl | rfl
  · refine ⟨s.gate.flights, ?_, rfl⟩
    rw [State.abortAfterEntry, hi, h]
    dsimp only
    rw [State.endAborted_eq, State.cancelWaiting]
    dsimp only [State.onGate]
    rw [Gate.finishWaiting_eq]
    rfl
  · refine ⟨s.gate.flights.map fun f => if f.fate = .own then { f with fate := .aborted } else f, ?_, ?_⟩
    · rw [State.abortAfterEntry, hi, h]
      dsimp only
      rw [State.abortPlan_eq, Gate.finishWaiting_eq]
      rfl
    · rw [List.map_map]
      refine List.map_congr_left fun f _ => ?_
      rw [Function.comp_apply]
      split <;> rfl

/-! ### The records cancelled -/

theorem MoveRecord.cancelledBy_frame (n : Nat) (c : FinishCause) (second : Nat) (r : MoveRecord) :
    (r.cancelledBy n c second).sequence = r.sequence ∧ (r.cancelledBy n c second).wave = r.wave ∧
      (r.cancelledBy n c second).turbine = r.turbine ∧ (r.cancelledBy n c second).plan = r.plan ∧
      (r.cancelledBy n c second).cls = r.cls ∧ (r.cancelledBy n c second).done = r.done := by
  unfold MoveRecord.cancelledBy
  split <;> exact ⟨rfl, rfl, rfl, rfl, rfl, rfl⟩

/-- The records of a plan made after an entry (R168). -/
def State.cancelledRecords (b : Build) (m : Mode) (s : State) : List MoveRecord :=
  (s.installedRecords b).map (MoveRecord.cancelledBy (nextPlanNumber s.gate.planCounter) (entryCause m) s.now)

/-- A record made after an entry is SKIPPED for a FAULT turbine and cancelled for any other (R168). -/
theorem State.cancelledRecord_spec (hm : moves s b moved)
    (hroom : roomFor (s.newRecords b (nextPlanNumber s.gate.planCounter)).length s) (hr : r ∈ s.installedRecords b) :
    ((s.fleet.dynamic r.turbine).availability = .fault ∧ ¬ r.waitsFor (nextPlanNumber s.gate.planCounter) ∧
        r.state = .skipped ∧ r.cause = some .unavailable ∧ r.finishTime = some s.now) ∨
      ((s.fleet.dynamic r.turbine).availability ≠ .fault ∧ r.waitsFor (nextPlanNumber s.gate.planCounter)) := by
  obtain ⟨hplan, hcls, -, -, -, -, -, -, hfault, hfree⟩ := State.installedRecord_spec hm hroom hr
  by_cases hf : (s.fleet.dynamic r.turbine).availability = .fault
  · obtain ⟨hst, hcause, hfinish⟩ := hfault hf
    refine .inl ⟨hf, ?_, hst, hcause, hfinish⟩
    rintro ⟨-, -, h | h⟩ <;> cases hst.symm.trans h
  · refine .inr ⟨hf, hcls, hplan, ?_⟩
    rw [(hfree hf).1]
    split
    · exact .inr rfl
    · exact .inl rfl

theorem State.waitingNumbers_made (hm : moves s b moved) (hroom : roomForPlan b s) :
    (s.installPlan b).gate.waitingNumbers (nextPlanNumber s.gate.planCounter) =
      ((s.installedRecords b).filter fun r => decide (r.waitsFor (nextPlanNumber s.gate.planCounter))).map (·.sequence) :=
  congrArg _ (State.installPlan_filter hm hroom (fun _ hr => decide_eq_false fun h => hr h.2.1) fun _ _ => rfl)

/-- The numbers that wait for the plan made are those of the records the entry cancels. -/
theorem State.not_mem_waitingNumbers_made (hm : moves s b moved) (hroom : roomForPlan b s) (m : Mode) :
    q ∉ (s.installPlan b).gate.waitingNumbers (nextPlanNumber s.gate.planCounter) ↔
      ∀ r ∈ s.cancelledRecords b m, r.state = .cancelled → r.sequence ≠ q := by
  rw [State.waitingNumbers_made hm hroom, State.cancelledRecords, List.forall_mem_map, List.mem_map, not_exists]
  refine forall_congr' fun r => ?_
  rw [List.mem_filter, decide_eq_true_iff, not_and, and_imp]
  refine forall_congr' fun hr => ?_
  rw [(MoveRecord.cancelledBy_frame _ _ _ r).1]
  refine imp_congr ?_ Iff.rfl
  obtain ⟨-, hno, hst, -⟩ | ⟨-, hwaits⟩ := State.cancelledRecord_spec hm hroom.1 hr
  · refine iff_of_false hno fun h => ?_
    rw [MoveRecord.cancelledBy, if_neg hno] at h
    cases hst.symm.trans h
  · refine iff_of_true hwaits ?_
    rw [MoveRecord.cancelledBy, if_pos hwaits]

/-- The ring and the queue that the plan made after an entry leaves (R94, R168). -/
theorem State.cancelled_records (hm : moves s b moved) (hroom : roomForPlan b s) (m : Mode) :
    (s.installPlan b).gate.ring.map
        (MoveRecord.cancelledBy (nextPlanNumber s.gate.planCounter) (entryCause m) s.now) =
      s.cleared.ring.drop (s.gate.ring.length + (s.newRecords b (nextPlanNumber s.gate.planCounter)).length - 1024) ++
        s.cancelledRecords b m ∧
    (s.installPlan b).gate.normalQueue.filter (fun q => decide (q ∉
        (s.installPlan b).gate.waitingNumbers (nextPlanNumber s.gate.planCounter))) =
      s.gate.normalQueue.filter (fun q => decide (q ∉ s.gate.installedWaiting ∧
        ∀ r ∈ s.cancelledRecords b m, r.state = .cancelled → r.sequence ≠ q)) := by
  obtain ⟨-, hring, hqueue⟩ := State.installPlan_records hm hroom.1
  obtain ⟨-, hcleared⟩ := State.cleared_records hroom.1.2.1
  constructor
  · rw [hring, List.map_append]
    refine congrArg (· ++ s.cancelledRecords b m) ?_
    refine (List.map_congr_left fun r hr => if_neg fun h => ?_).trans (List.map_id _)
    exact State.cleared_plan hroom (List.mem_of_mem_drop hr) h.2.1
  · have hnew : (((s.installedRecords b).filter (fun r => decide (r.state = .ready))).map (·.sequence)).filter
        (fun q => decide (q ∉ (s.installPlan b).gate.waitingNumbers (nextPlanNumber s.gate.planCounter))) = [] := by
      rw [List.filter_eq_nil_iff]
      intro q hq hkept
      obtain ⟨r, hr, rfl⟩ := List.mem_map.mp hq
      obtain ⟨hmem, hready⟩ := List.mem_filter.mp hr
      refine of_decide_eq_true hkept ?_
      rw [State.waitingNumbers_made hm hroom]
      refine List.mem_map_of_mem (List.mem_filter.mpr ⟨hmem, decide_eq_true ?_⟩)
      obtain ⟨-, -, hst, -⟩ | ⟨-, hwaits⟩ := State.cancelledRecord_spec hm hroom.1 hmem
      · cases hst.symm.trans (of_decide_eq_true hready)
      · exact hwaits
    rw [hqueue, List.filter_append, hnew, List.append_nil, hcleared, List.filter_filter]
    refine List.filter_congr fun q _ => ?_
    rw [Bool.eq_iff_iff, Bool.and_eq_true, decide_eq_true_iff, decide_eq_true_iff, decide_eq_true_iff,
      State.not_mem_waitingNumbers_made hm hroom m]
    exact and_comm

/-- Settles O39: the plan made ends ABORTED by the entry taken, the build ends, and the next one is tried; with room the records
are the ones created and cancelled. -/
theorem installAfterEntryIsAborted : Obligations.InstallAfterEntryIsAborted := by
  unfold Obligations.InstallAfterEntryIsAborted
  intro s b m number n slots moved hp hb hk hentry hnumber hslots htwo hm hn
  obtain rfl : number = nextPlanNumber s.gate.planCounter := hnumber
  obtain rfl : slots = s.slots b := hslots
  obtain rfl : n = (s.newRecords b (nextPlanNumber s.gate.planCounter)).length := hn.trans (State.newRecords_length hm _).symm
  obtain ⟨hwaves, -, -⟩ := State.created_waves hm
  have hplan := State.installPlan_frame b s
  obtain ⟨hplanCounter, hsteered, hcomponents⟩ : (s.installPlan b).gate.planCounter = nextPlanNumber s.gate.planCounter ∧
      (s.installPlan b).gate.steered = some b.pair ∧ (s.installPlan b).gate.components = s.gate.components := by
    rw [hplan]
    exact ⟨rfl, rfl, rfl⟩
  have htested : s.planTested b = s.planMade b := State.planTested_kept hm (.inl htwo) fun h => by omega
  have htaken : (s.planMade b).entryTaken = some m :=
    (State.entryTaken_of_reports (t := s.planMade b) rfl (by rw [State.planMade, hplan]) (installReports_modeless b s)).trans hentry
  obtain ⟨flights, habort, hflights⟩ := State.abortAfterEntry_eq (s := s.planMade b)
    (State.installPlan_installed b s) htaken
  obtain ⟨v, hv⟩ : ∃ v, v = (s.planMade b).abortAfterEntry := ⟨_, rfl⟩
  have hexec : exec .install s = .next v.endBuild.tryBuild := by
    rw [exec_install hp hb hk, State.installed_eq, htested, hv]
  rw [← hv] at habort
  obtain ⟨u, hu⟩ : ∃ u, u = v.endBuild := ⟨_, rfl⟩
  obtain ⟨hidle, hbuild, hgate⟩ := tryBuild_follows (s := s) (u := u) (by rw [hu, habort]; exact hp) (by rw [hu, habort]; rfl)
    (by rw [hu, habort]; rfl) (by rw [hu, habort]; rfl)
  have hug : u.gate = v.gate := by rw [hu]; rfl
  refine ⟨u.tryBuild, u, { s.planInstalled b with state := .aborted }, _, by rw [hu]; exact hexec, ?_, ?_, rfl, ?_, rfl, rfl, rfl,
    rfl, ?_, ?_, hwaves, ?_, ?_, rfl, ?_, ?_, hidle, hbuild, fun h512 hord hwrap hfresh => ?_⟩
  · rw [hgate, hug, habort]
  · rw [hgate, hug, habort]
  · rw [hgate, hu, habort]
    rfl
  · rw [hgate, hug, habort]
    exact hplanCounter
  · rw [hgate, hug, habort]
    exact hsteered
  · rw [hgate, hug, habort]
    exact hcomponents
  · have hold : (s.installPlan b).gate.flights.map (·.turbine) = s.gate.flights.map (·.turbine) := by
      rw [hplan]
      refine List.map_map.trans (List.map_congr_left fun f _ => ?_)
      rw [Function.comp_apply]
      split <;> rfl
    rw [hgate, hug, habort]
    exact hflights.trans hold
  · rw [hu, habort]
    exact (List.append_assoc (s.reports ++ s.installReports b) _ _).trans (List.append_assoc s.reports _ _)
  · rw [hu, habort]
    exact List.getLast?_concat ..
  · have hroom : roomForPlan b s := ⟨⟨h512, hord, hwrap⟩, hfresh⟩
    obtain ⟨hcounter, -, -⟩ := State.installPlan_records hm hroom.1
    obtain ⟨hring, hqueue⟩ := State.cancelled_records hm hroom m
    rw [(State.cleared_records hord).1] at hring
    refine ⟨s.cancelledRecords b m, s.gate.installedWaiting, rfl, ?_, ?_, ?_, ?_, ?_, fun r hr => ?_⟩
    · rw [hgate, hug, habort]
      exact hcounter
    · rw [hgate, hug, habort]
      exact hring
    · rw [hgate, hug, habort]
      exact hqueue
    · rw [← State.installedRecords_range, State.cancelledRecords, List.map_map]
      exact List.map_congr_left fun r _ => (MoveRecord.cancelledBy_frame _ _ _ r).1
    · rw [← State.installedRecords_members hm, State.cancelledRecords, List.map_map]
      refine List.map_congr_left fun r _ => ?_
      obtain ⟨-, hwave, hturbine, -⟩ :=
        MoveRecord.cancelledBy_frame (nextPlanNumber s.gate.planCounter) (entryCause m) s.now r
      rw [Function.comp_apply, hwave, hturbine]
    · obtain ⟨x, hx, rfl⟩ := List.mem_map.mp hr
      obtain ⟨hnumber, hcls, hdone, hseg, hgrant, -⟩ := State.installedRecord_spec hm hroom.1 hx
      obtain ⟨hf, hno, hst, hcause, hfinish⟩ | ⟨hf, hwaits⟩ := State.cancelledRecord_spec hm hroom.1 hx
      · rw [MoveRecord.cancelledBy, if_neg hno]
        exact ⟨hnumber, hcls, hdone, hseg, hgrant, hfinish, fun _ => ⟨hst, hcause⟩, fun h => absurd hf h⟩
      · rw [MoveRecord.cancelledBy, if_pos hwaits]
        exact ⟨hnumber, hcls, hdone, rfl, rfl, rfl, fun h => absurd h hf, fun _ => ⟨rfl, rfl⟩⟩

end Sys2Proof.Machine
end
